-- ==== Sys2Proof/Word.lean ====
section
/-! DEFINITION. The word types: every bus access and every array element is one 32-bit word (R70); the
memory list holds the bytes of those words (little-endian lanes, R70). -/

namespace Sys2Proof

/-- One 32-bit word (R70). A word typed f32 holds a binary32 pattern. -/
abbrev Word := BitVec 32

/-- One byte of a word. -/
abbrev Byte := BitVec 8

/-- A byte address of the block's 18-bit register window (R68). -/
abbrev Addr := BitVec 18

end Sys2Proof
end

