-- ==== Sys2Proof/Syntax.lean ====
section
/-! DEFINITION. The commands of the block, one constructor per row of spec/opcode_table.json (R87).
Only PUSH and SRST have an operand, the 8-bit ARG field (R86). -/

namespace Sys2Proof

/-- A command of the block (R87). -/
inductive Instr where
  /-- PUSH with the channel count the producer declares (R93). -/
  | push (ch : BitVec 8)
  /-- NOP (R95). -/
  | nop
  /-- SNAPSHOT (R96). -/
  | snapshot
  /-- TRANSIENT (R108). -/
  | transient
  /-- WINDOW (R100). -/
  | window
  /-- ZEROPAD (R101). -/
  | zeropad
  /-- FFT (R102). -/
  | fft
  /-- MAG (R104). -/
  | mag
  /-- WHITEN (R105). -/
  | whiten
  /-- SOLVE (R115). -/
  | solve
  /-- PUBLISH (R120). -/
  | publish
  /-- STEP (R121). -/
  | step
  /-- START (R124). -/
  | start
  /-- STOP (R127). -/
  | stop
  /-- CLRFAULT (R128). -/
  | clrfault
  /-- SRST with its key, which must be 0xA5 (R86, R129). -/
  | srst (key : BitVec 8)
  deriving DecidableEq, Repr

end Sys2Proof
end

