-- ==== Sys2Proof/WellFormed.lean ====
section
/-! DEFINITION. Which command terms stand for a legal word: every one but an SRST whose key is not 0xA5,
which is ILLEGAL (R86, R88, R129). PUSH has 256 legal words, one for each channel count (R88). -/

namespace Sys2Proof

/-- The key SRST carries in ARG (R86). -/
def srstKey : BitVec 8 := 0xA5

/-- The command stands for a word that decodes to it (R88). -/
def Instr.wellFormed : Instr → Bool
  | .srst key => key == srstKey
  | .push _ | .nop | .snapshot | .transient | .window | .zeropad | .fft | .mag | .whiten | .solve
  | .publish | .step | .start | .stop | .clrfault => true

/-- `wellFormed` as a proposition. -/
abbrev Instr.WellFormed (i : Instr) : Prop := i.wellFormed = true

end Sys2Proof
end

