-- ==== Sys2Proof/Decode.lean ====
section
/-! DEFINITION. Decoding a word written to a command port (R85 to R89), total, rejecting by name, and the
encoder written from the same table. Instructions are single 32-bit words; no memory is fetched (R82). -/

namespace Sys2Proof

/-- The three command ports (R24, R87). -/
inductive Port where
  /-- HCMD, the host command port. -/
  | hcmd
  /-- PCMD, the producer command port. -/
  | pcmd
  /-- CCMD, the consumer command port. -/
  | ccmd
  deriving DecidableEq, Repr

/-- Why a word decodes to ILLEGAL (R88). The block does not tell these apart: each is Fault(4, w) (R89). -/
inductive DecodeError where
  /-- `w[31:16]` is not 0. -/
  | reservedBits
  /-- No row of the table has this port and OPC. -/
  | noSuchOpcode
  /-- SRST with ARG other than 0xA5. -/
  | wrongKey
  /-- ARG is not 0 in a command that takes none. -/
  | strayArgument
  deriving DecidableEq, Repr

/-- The byte address of a port (R69). -/
def Port.addr : Port → Nat
  | .hcmd => 0x010
  | .pcmd => 0x014
  | .ccmd => 0x01C

/-- The fields of the one format, `CMD` (R85). -/
def rsvField (w : Word) : BitVec 16 := w.extractLsb' 16 16

/-- The ARG field (R85). -/
def argField (w : Word) : BitVec 8 := w.extractLsb' 8 8

/-- The OPC field (R85). -/
def opcField (w : Word) : BitVec 8 := w.extractLsb' 0 8

/-- A word of the `CMD` format from its ARG and OPC fields; RSV is 0 (R85). -/
def cmdWord (arg opc : BitVec 8) : Word := (arg.zeroExtend 32 <<< 8) ||| opc.zeroExtend 32

/-- The command of a row that takes no argument (R88). -/
def plainRow (i : Instr) (arg : BitVec 8) : Except DecodeError Instr :=
  if arg = 0 then .ok i else .error .strayArgument

/-- SRST's row (R86, R88). -/
def srstRow (arg : BitVec 8) : Except DecodeError Instr :=
  if arg = srstKey then .ok (.srst arg) else .error .wrongKey

/-- PUSH's row: every ARG is a channel count (R86, R88). -/
def pushRow (arg : BitVec 8) : Except DecodeError Instr := .ok (.push arg)

/-- The opcode map (R87): port, OPC, and the command as a function of ARG. -/
def opcodeMap : List (Port × BitVec 8 × (BitVec 8 → Except DecodeError Instr)) :=
  [ (.pcmd, 0x01, pushRow),
    (.ccmd, 0x10, plainRow .nop),
    (.ccmd, 0x11, plainRow .snapshot),
    (.ccmd, 0x20, plainRow .transient),
    (.ccmd, 0x30, plainRow .window),
    (.ccmd, 0x31, plainRow .zeropad),
    (.ccmd, 0x32, plainRow .fft),
    (.ccmd, 0x33, plainRow .mag),
    (.ccmd, 0x34, plainRow .whiten),
    (.ccmd, 0x40, plainRow .solve),
    (.ccmd, 0x50, plainRow .publish),
    (.ccmd, 0x60, plainRow .step),
    (.hcmd, 0x80, plainRow .start),
    (.hcmd, 0x81, plainRow .stop),
    (.hcmd, 0x82, plainRow .clrfault),
    (.hcmd, 0x83, srstRow) ]

/-- Decoding a word `w` written to port `p`, in the order of R88. An error is ILLEGAL. -/
def decode (p : Port) (w : Word) : Except DecodeError Instr :=
  if rsvField w ≠ 0 then .error .reservedBits
  else
    match opcodeMap.find? (fun row => row.1 == p && row.2.1 == opcField w) with
    | none => .error .noSuchOpcode
    | some row => row.2.2 (argField w)

/-- The port a command is written to (R87). -/
def Instr.port : Instr → Port
  | .push _ => .pcmd
  | .nop | .snapshot | .transient | .window | .zeropad | .fft | .mag | .whiten | .solve | .publish
  | .step => .ccmd
  | .start | .stop | .clrfault | .srst _ => .hcmd

/-- The OPC of a command (R87). -/
def Instr.opc : Instr → BitVec 8
  | .push _ => 0x01
  | .nop => 0x10
  | .snapshot => 0x11
  | .transient => 0x20
  | .window => 0x30
  | .zeropad => 0x31
  | .fft => 0x32
  | .mag => 0x33
  | .whiten => 0x34
  | .solve => 0x40
  | .publish => 0x50
  | .step => 0x60
  | .start => 0x80
  | .stop => 0x81
  | .clrfault => 0x82
  | .srst _ => 0x83

/-- The ARG of a command: the channel count, the key, and 0 for every other one (R85, R86). -/
def Instr.arg : Instr → BitVec 8
  | .push ch => ch
  | .srst key => key
  | .nop | .snapshot | .transient | .window | .zeropad | .fft | .mag | .whiten | .solve | .publish
  | .step | .start | .stop | .clrfault => 0

/-- The word of a command (R85, R87). -/
def encode (i : Instr) : Word := cmdWord i.arg i.opc

/-- The port whose row has this OPC. The OPC values of the three ports are disjoint (R87); a value with no row is
sent to CCMD, where it is as ILLEGAL as anywhere. -/
def portOfOpc (opc : BitVec 8) : Port :=
  match opcodeMap.find? (fun row => row.2.1 == opc) with
  | some row => row.1
  | none => .ccmd

/-- The word that an instruction of `nbits` bits with value `w` is: the bits above `nbits` are 0. -/
def tableWord (nbits w : Nat) : Word := BitVec.ofNat 32 (w % 2 ^ nbits)

/-- What the decoder reads from a row's word, at the port of the row's OPC (opcode_table.json gives the port beside
the bits, not in them). -/
def decodeTableWord (nbits w : Nat) : Option Instr :=
  match decode (portOfOpc (opcField (tableWord nbits w))) (tableWord nbits w) with
  | .ok i => some i
  | .error _ => none

end Sys2Proof
end

