-- ==== Sys2Proof/Machine/Binary32.lean ====
section
/-! DEFINITION. The binary32 primitives (R15, R70): every operation is computed exactly on naturals and rounded once,
to nearest with ties to even. A finite pattern stands for a whole multiple of 2^-149, so exact values are integers
in that unit. Subnormals are kept, a NaN result is 0x7FC00000, there are no exception flags (R15). -/

namespace Sys2Proof.Machine

/-- The canonical quiet NaN (R15). -/
def qNaN : Word := 0x7FC00000

/-- The pattern of +infinity without its sign. -/
def infBits : Nat := 0x7F800000

/-- The sign bit, bit 31 (R70). -/
def fsign (a : Word) : Bool := a.getLsbD 31

/-- Bits 30:0, the exponent and fraction (R70). -/
def fbits (a : Word) : Nat := a.toNat % 2 ^ 31

/-- The exponent field, bits 30:23, is not 0xFF: neither NaN nor infinite (R125). -/
def isFinite (a : Word) : Bool := fbits a < infBits

/-- The pattern is a NaN. -/
def isNaN (a : Word) : Bool := infBits < fbits a

/-- The pattern is an infinity. -/
def isInf (a : Word) : Bool := fbits a == infBits

/-- The pattern is +0.0 or -0.0. -/
def isZero (a : Word) : Bool := fbits a == 0

/-- The magnitude of a finite pattern in units of 2^-149: the fraction alone where the exponent field is 0 or 1 (the
hidden bit of a field of 1 is part of bits 30:0), else the 24-bit significand scaled by the field (R70). -/
def unitsOfBits (n : Nat) : Nat :=
  if n / 2 ^ 23 = 0 then n else (2 ^ 23 + n % 2 ^ 23) * 2 ^ (n / 2 ^ 23 - 1)

/-- The magnitude of a finite pattern in units of 2^-149. -/
def fmag (a : Word) : Nat := unitsOfBits (fbits a)

/-- The value of a finite pattern in units of 2^-149. -/
def fval (a : Word) : Int := if fsign a then -(fmag a : Int) else fmag a

/-- A pattern from its sign and bits 30:0. -/
def fpack (neg : Bool) (bits : Nat) : Word := BitVec.ofNat 32 ((if neg then 2 ^ 31 else 0) + bits)

/-- Nearest whole number to `n / d`, ties to even. -/
def roundDiv (n d : Nat) : Nat :=
  if d < 2 * (n % d) ∨ (2 * (n % d) = d ∧ (n / d) % 2 = 1) then n / d + 1 else n / d

/-- Bits 30:0 of the binary32 nearest to the rational `num / den`, ties to even: `RNE32` (R15). With `t` the number of
bits the value has above 24 in units of 2^-149, the result is the nearest multiple of 2^t units; `t` and that multiple
are the exponent and significand fields, and a carry out of the significand steps the exponent. Overflow is infinity. -/
def roundBits (num den : Nat) : Nat :=
  let t := Nat.log2 (num * 2 ^ 149 / den) - 23
  min (t * 2 ^ 23 + roundDiv (num * 2 ^ 149) (den * 2 ^ t)) infBits

/-- `RNE32` of the rational with the given sign and magnitude `num / den` (R15). -/
def rne32 (neg : Bool) (num den : Nat) : Word := fpack neg (roundBits num den)

/-- The sign bit flipped. -/
def fneg (a : Word) : Word := a ^^^ 0x80000000

/-- IEEE-754 addition, round to nearest even (R15). An exact zero sum is +0.0 unless both operands are -0.0. -/
def fadd (a b : Word) : Word :=
  if isNaN a ∨ isNaN b then qNaN
  else if isInf a then (if isInf b ∧ fsign a ≠ fsign b then qNaN else a)
  else if isInf b then b
  else if fval a + fval b = 0 then fpack (fsign a && fsign b) 0
  else rne32 (fval a + fval b < 0) (fval a + fval b).natAbs (2 ^ 149)

/-- IEEE-754 subtraction (R15). -/
def fsub (a b : Word) : Word := fadd a (fneg b)

/-- IEEE-754 multiplication (R15). -/
def fmul (a b : Word) : Word :=
  if isNaN a ∨ isNaN b then qNaN
  else if isInf a ∨ isInf b then
    (if isZero a ∨ isZero b then qNaN else fpack (fsign a ^^ fsign b) infBits)
  else rne32 (fsign a ^^ fsign b) (fmag a * fmag b) (2 ^ 298)

/-- IEEE-754 division (R15). -/
def fdiv (a b : Word) : Word :=
  if isNaN a ∨ isNaN b then qNaN
  else if isInf a then (if isInf b then qNaN else fpack (fsign a ^^ fsign b) infBits)
  else if isInf b then fpack (fsign a ^^ fsign b) 0
  else if isZero b then (if isZero a then qNaN else fpack (fsign a ^^ fsign b) infBits)
  else rne32 (fsign a ^^ fsign b) (fmag a) (fmag b)

/-- The largest `r < 2^k` with `r * r ≤ n` not below `r₀`, one bit a step from the top. -/
def isqrtFrom (n : Nat) : Nat → Nat → Nat
  | 0, r => r
  | k + 1, r => isqrtFrom n k (if (r + 2 ^ k) * (r + 2 ^ k) ≤ n then r + 2 ^ k else r)

/-- The floor of the square root. -/
def isqrt (n : Nat) : Nat := isqrtFrom n (Nat.log2 n / 2 + 1) 0

/-- IEEE-754 square root (R15). The root of `m` units is `sqrt (m * 2^151) / 2^150`; its floor is taken with one more
bit that says whether the root is exact, so that the one rounding sees which side of every midpoint the root is on. -/
def fsqrt (a : Word) : Word :=
  if isNaN a then qNaN
  else if isZero a then a
  else if fsign a then qNaN
  else if isInf a then a
  else
    let n := fmag a * 2 ^ 151
    let r := isqrt n
    rne32 false (2 * r + (if r * r = n then 0 else 1)) (2 ^ 151)

/-- A pattern that is no NaN as a number that orders like its value; both zeros are 0. -/
def forder (a : Word) : Int := if fsign a then -(fbits a : Int) else fbits a

/-- IEEE "greater than", false on NaN (R15). -/
def fgt (a b : Word) : Bool := !isNaN a && !isNaN b && decide (forder b < forder a)

/-- IEEE "less than", false on NaN (R15). -/
def flt (a b : Word) : Bool := fgt b a

/-- `fmax0(v)` (R15). -/
def fmax0 (v : Word) : Word := if fgt v 0 then v else 0

/-- `fclampmin(v, m)` (R15). -/
def fclampmin (v m : Word) : Word := if fgt v m then v else m

/-- `f32(n)` (R15). -/
def f32 (n : Nat) : Word := rne32 false n 1

end Sys2Proof.Machine
end

