-- ==== Sys2Proof/Config.lean ====
section
/-! DEFINITION. What is fixed for the machine: DOC's fixed parameters (R6, R7) and the parameters the
spec leaves OPEN (R10), the latter as constants without a body: nothing can be proved of their values.
The configuration a host writes is state, not configuration in this sense (Machine/State.lean). -/

namespace Sys2Proof.Config

/-- `FS`, samples per second (R6). -/
def fs : Nat := 48000

/-- `STEP`, the samples of one frame and of one step (R6). -/
def step : Nat := 128

/-- `CAP`, the samples the ring holds (R6). -/
def cap : Nat := 2048

/-- `WINLEN`, the samples of one analysis window (R6). -/
def winLen : Nat := 2048

/-- `ID` always reads this, the ASCII string "ASFF" (R20). -/
def id : Word := 0x41534646

/-- `VERSION` always reads this (R20). -/
def version : Word := 0x00010007

/-- OPEN parameter `init_arrays` for the bus-visible arrays (R10, R147, U1): draw number and byte address
give the byte an array holds after that reset until something writes it. Free value, log 3. -/
opaque initByte : Nat → Nat → Byte

/-- OPEN parameter `init_arrays` for the hidden staging buffer STG (R10, R64, U2): draw number and byte offset.
Free value, log 3. -/
opaque initStgByte : Nat → Nat → Byte

/-- OPEN parameter `fft_impl` before the laws of R103 are imposed on it (R102, U3): transform length, the
inputs and the bin give a real and an imaginary pattern. Free value, log 5. -/
opaque fftRaw : Nat → List Word → Nat → Word × Word

/-- OPEN parameter `sched` (R10, U6), used where the list in State lays down no choice and two agents or more
have an enabled event: the number of the choice gives an index among those agents. Free value, log 2. -/
opaque schedule : Nat → Nat

/-- The weak fairness of the sequencer (R17): how many choices may pass it over in the wait that began at the choice of
this number. Some bound holds for every wait of a fair run; which one is open. Free value, log 2. -/
opaque patience : Nat → Nat

end Sys2Proof.Config
end

