-- ==== Sys2Proof/Machine/State.lean ====
section
/-! DEFINITION. The state of the block (10_state.md, every piece), the model's own fields beside it (the agents'
programs, the schedule, the launch marks, the bus answer), the reasons a run stops, and the state after reset. -/

namespace Sys2Proof.Machine

/-- `STATE`, the session state (R22). -/
inductive Mode where
  /-- 0: no session. -/
  | idle
  /-- 1: a session is active. -/
  | running
  /-- 2: teardown was requested. -/
  | stopping
  /-- 3: a malformed frame was received. -/
  | faulted
  deriving DecidableEq, Repr

/-- `cstage`, the stage pointer (R66): 0, or the stage in progress. Values 10 to 15 never occur. -/
inductive Stage where
  /-- 0: no stage. -/
  | none
  /-- 1 -/
  | snapshot
  /-- 2 -/
  | transient
  /-- 3 -/
  | window
  /-- 4 -/
  | zeropad
  /-- 5 -/
  | fft
  /-- 6 -/
  | mag
  /-- 7 -/
  | whiten
  /-- 8 -/
  | solve
  /-- 9 -/
  | publish
  deriving DecidableEq, Repr

/-- The legal values of ALEN (R38). -/
inductive ALen where
  | len512
  | len1024
  | len2048
  deriving DecidableEq, Repr

/-- The legal values of NFFT (R39). -/
inductive NFft where
  | len2048
  | len4096
  deriving DecidableEq, Repr

/-- The legal values of WKIND (R40). -/
inductive WKind where
  | blackmanHarris
  | hann
  deriving DecidableEq, Repr

/-- The legal values of HUNIT (R43). -/
inductive HUnit where
  | hz
  | cents
  deriving DecidableEq, Repr

/-- The configuration registers (R34 to R50), raw 32-bit values. -/
structure Cfg where
  fs : Word
  frame : Word
  winlen : Word
  alen : Word
  nfft : Word
  wkind : Word
  nfloor : Word
  htol : Word
  hunit : Word
  maxn : Word
  debounce : Word
  tthr : Word
  walpha : Word
  weps : Word
  hsub : Word
  silence : Word
  deriving DecidableEq, Repr

/-- The reset values of the configuration registers (R35 to R50). -/
def Cfg.default : Cfg where
  fs := 48000
  frame := 128
  winlen := 2048
  alen := 2048
  nfft := 4096
  wkind := 0
  nfloor := 0x40000000
  htol := 0x40C00000
  hunit := 0
  maxn := 6
  debounce := 2
  tthr := 0x3D800000
  walpha := 0x3D800000
  weps := 0x35800000
  hsub := 0x3F800000
  silence := 0x39000000

/-- The configuration latched by the last successful START (R67, R69, R124). The lengths and kinds are types of
their legal values, since START latches nothing else (log 18). -/
structure Latched where
  alen : ALen
  nfft : NFft
  wkind : WKind
  nfloor : Word
  htol : Word
  hunit : HUnit
  maxn : Fin 17
  hsub : Word
  silence : Word
  deriving DecidableEq, Repr

/-- What a reset latches: the CFG defaults, so NFFT 4096, B 2049, ALEN 2048 (R69, R147). -/
def Latched.default : Latched where
  alen := .len2048
  nfft := .len4096
  wkind := .blackmanHarris
  nfloor := 0x40000000
  htol := 0x40C00000
  hunit := .hz
  maxn := 6
  hsub := 0x3F800000
  silence := 0x39000000

/-- The bits of `T_FLAGS` and of its copy `RES_FLAGS` (R52, R54). -/
structure TFlags where
  /-- bit 0 -/
  tdet : Bool
  /-- bit 1 -/
  gated : Bool
  /-- bit 2 -/
  capped : Bool
  deriving DecidableEq, Repr

/-- One record of `WC` and of `CAND` (R53, R55). -/
structure Cand where
  note : Word
  bin : Word
  freq : Word
  mag : Word
  deriving DecidableEq, Repr

/-- The zero record. -/
def Cand.zero : Cand := ⟨0, 0, 0, 0⟩

/-- The scalar registers of the result bank (R54). -/
structure Bank where
  seq : Word
  wend : Word
  lag : Word
  flags : TFlags
  rms : Word
  flux : Word
  ncand : Word
  dombin : Word
  domf : Word
  floor : Word
  deriving DecidableEq, Repr

/-- The result bank at reset and after START (R54, R126). -/
def Bank.zero : Bank := ⟨0, 0, 0, ⟨false, false, false⟩, 0, 0, 0, 0, 0, 0⟩

/-- What a memory's unlisted addresses hold: the draw of `init_arrays` after a reset, or START's zero fill. -/
inductive Fill where
  /-- The bus-visible arrays after reset number `draw` (R147). -/
  | arrays (draw : Nat)
  /-- The staging buffer after reset number `draw` (R64, R147). -/
  | staging (draw : Nat)
  /-- +0.0 everywhere (R126). -/
  | zero
  deriving DecidableEq, Repr

/-- A memory: byte cells at strictly rising addresses, and what every unlisted address holds (log 17). -/
structure Memory where
  fill : Fill
  cells : List Host.Cell
  deriving DecidableEq, Repr

/-- The four agents (R11). -/
inductive Agent where
  | producer
  | sequencer
  | host
  | reader
  deriving DecidableEq, Repr

/-- One line of an agent's program (R14, R90, R91). An access names its size in bytes; only 4 is well-formed
(R71). -/
inductive AgentOp where
  /-- `MemWrite(addr, size, v)`. -/
  | write (addr : Addr) (size : Nat) (v : Word)
  /-- `MemRead(addr, size)`. -/
  | read (addr : Addr) (size : Nat)
  /-- `POLL`: one read each turn until `(value & mask) = val` (R91). -/
  | poll (addr : Addr) (mask val : Word)
  deriving DecidableEq, Repr

/-- The state of the block and of the launch it runs in. -/
structure State where
  /-- CTRL.AUTO (R21). -/
  auto : Bool
  /-- STATE (R22). -/
  mode : Mode
  /-- CBUSY (R65). -/
  cbusy : Bool
  /-- CWAIT (R65). -/
  cwait : Bool
  /-- cstage (R66). -/
  cstage : Stage
  /-- curcmd, hidden (R65). -/
  curcmd : Word
  /-- W, the write cursor (R25). -/
  w : Word
  /-- R, the read cursor (R26). -/
  r : Word
  /-- OVRCNT (R28). -/
  ovrcnt : Word
  /-- IGNCNT (R29). -/
  igncnt : Word
  /-- FAULT bits 6:0 (R30). -/
  fault : BitVec 7
  /-- FCAUSE bits 7:0 (R31). -/
  fcause : BitVec 8
  /-- FINFO (R31). -/
  finfo : Word
  /-- IRQ_EN bits 5:0 (R32). -/
  irqEn : BitVec 6
  /-- IRQ_PEND bits 5:0 (R33). -/
  irqPend : BitVec 6
  /-- The configuration registers (R34). -/
  cfg : Cfg
  /-- The latched configuration (R67). -/
  lat : Latched
  /-- PREV_RMS (R51). -/
  prevRms : Word
  /-- WFLOOR (R51). -/
  wfloor : Word
  /-- WFIRST bit 0 (R51). -/
  wfirst : Bool
  /-- WEND (R52). -/
  wend : Word
  /-- LAG (R52). -/
  lag : Word
  /-- T_RMS (R52). -/
  tRms : Word
  /-- T_FLUX (R52). -/
  tFlux : Word
  /-- T_FLAGS (R52). -/
  tFlags : TFlags
  /-- W_NC (R52). -/
  wNc : Word
  /-- W_DOMBIN (R52). -/
  wDombin : Word
  /-- W_DOMF (R52). -/
  wDomf : Word
  /-- WC[0..15], hidden (R53). -/
  wc : List Cand
  /-- RES_SEQ to RES_FLOOR (R54). -/
  bank : Bank
  /-- CAND[0..15] (R55). -/
  cand : List Cand
  /-- RING, WIN, PAD, XRE, XIM, MAG, WHT, SCR, WCOEF at their window addresses (R56 to R63, R69). -/
  mem : Memory
  /-- STG[0..127], hidden, word i at byte offset 4·i (R64). -/
  stg : Memory
  /-- STG_CNT (R64). -/
  stgCnt : BitVec 8
  /-- The launch's mark `faults_seen` (R150): every fault class raised since the launch. -/
  faultsSeen : BitVec 7
  /-- The launch's mark `refused` (R150): an agent other than the Producer wrote one of its ports (R131, log 7). -/
  refusedMark : Bool
  /-- Model: the number of the draw of `init_arrays` in force (log 3). -/
  resets : Nat
  /-- Model: the number of the next free choice of the schedule (log 2). -/
  turns : Nat
  /-- Model: the number of the choice at which the sequencer last moved or had no event (R17, log 2). -/
  waitFrom : Nat
  /-- Model: the agents that move next, as far as the schedule is laid down (log 2). -/
  sched : List Agent
  /-- Model: the agent whose event is being performed (log 1). -/
  turn : Agent
  /-- Model: what is left of the Host's program (R149, log 6). -/
  hostProg : List AgentOp
  /-- Model: what is left of the Producer's program. -/
  producerProg : List AgentOp
  /-- Model: what is left of the Downstream reader's program. -/
  readerProg : List AgentOp
  /-- Model: the data of the bus's last answer (R72, R75, log 8). -/
  busData : Word
  /-- Model: whether the bus's last answer was an error response (R72, log 8). -/
  busError : Bool
  deriving DecidableEq, Repr

/-- The block and the launch marks at power-on reset, every agent's program empty (R147; 10_state.md section 11). -/
def State.reset : State where
  auto := false
  mode := .idle
  cbusy := false
  cwait := false
  cstage := .none
  curcmd := 0
  w := 0
  r := 0
  ovrcnt := 0
  igncnt := 0
  fault := 0
  fcause := 0
  finfo := 0
  irqEn := 0
  irqPend := 0
  cfg := Cfg.default
  lat := Latched.default
  prevRms := 0
  wfloor := 0
  wfirst := true
  wend := 0
  lag := 0
  tRms := 0
  tFlux := 0
  tFlags := ⟨false, false, false⟩
  wNc := 0
  wDombin := 0
  wDomf := 0
  wc := List.replicate 16 Cand.zero
  bank := Bank.zero
  cand := List.replicate 16 Cand.zero
  mem := ⟨.arrays 0, []⟩
  stg := ⟨.staging 0, []⟩
  stgCnt := 0
  faultsSeen := 0
  refusedMark := false
  resets := 0
  turns := 0
  waitFrom := 0
  sched := []
  turn := .host
  hostProg := []
  producerProg := []
  readerProg := []
  busData := 0
  busError := false

/-- Why a run stops without a next state. The spec's own faults are no such thing: they are recorded in FAULT and the
machine goes on (R132, R138). -/
inductive Fault where
  /-- Raised by `step` when no agent has an enabled event and the sequencer holds nothing: the run is over (R149). Safe. -/
  | runOver
  /-- Raised by `step` when the sequencer is held in SNAPSHOT's wait and every agent's program is exhausted or stands at a
  POLL that nothing left can satisfy: the run is stuck (R149, U12). Safe. -/
  | stuck
  /-- Raised by `step` or by STEP when CBUSY = 1 and curcmd or cstage names no stage, which no run reaches (R65, R66; the
  invariant in Safety.lean). Safe. -/
  | lostCommand
  deriving DecidableEq, Repr

/-- Why a command has no meaning. -/
inductive Refusal where
  /-- Raised by an arm of `exec` whose command has no meaning yet; no arm does. Safe. -/
  | notModelled (mnemonic : String)
  deriving DecidableEq, Repr

end Sys2Proof.Machine
end

