-- ==== Sys2Proof/Machine/Memory.lean ====
section
/-! DEFINITION. Memory accesses: the byte cells of Machine/State.lean, words over them in little-endian order (R70), and
runs of words. A walk over the cells passes every cell below the address it looks for, so a run of addresses is read in
one pass. Every write keeps the canonical form `Memory.wf`. -/

namespace Sys2Proof.Machine

open Host (Cell)

/-- What an unlisted address holds: the draw of `init_arrays` after a reset (R147), or +0.0 after START (R126). -/
def Fill.byte : Fill → Nat → Byte
  | .arrays draw, a => Config.initByte draw a
  | .staging draw, a => Config.initStgByte draw a
  | .zero, _ => 0

/-- Whether a byte needs a cell: after START's zero fill a zero byte has none; over an unspecified fill every byte
written has one. -/
def Fill.lists : Fill → Byte → Bool
  | .zero, v => v != 0
  | .arrays _, _ => true
  | .staging _, _ => true

/-- The canonical form: addresses strictly rising, no cell for a byte that needs none. -/
abbrev Memory.wf (m : Memory) : Prop :=
  m.cells.Pairwise (fun c d => c.1 < d.1) ∧ ∀ c ∈ m.cells, m.fill.lists c.2 = true

/-- The cells from the first one at `a` or above. -/
def seek (a : Nat) (cells : List Cell) : List Cell := cells.dropWhile (fun c => decide (c.1 < a))

/-- The byte at `a`, given the cells from the first one at `a` or above. -/
def headByte (fill : Fill) (a : Nat) : List Cell → Byte
  | [] => fill.byte a
  | c :: _ => if c.1 = a then c.2 else fill.byte a

/-- The byte at address `a`. -/
def Memory.readByte (m : Memory) (a : Nat) : Byte := headByte m.fill a (seek a m.cells)

/-- `n` bytes from address `a` on, in one walk. -/
def readRun (fill : Fill) : Nat → Nat → List Cell → List Byte
  | 0, _, _ => []
  | n + 1, a, cells => headByte fill a (seek a cells) :: readRun fill n (a + 1) (seek a cells)

/-- A word from its bytes, the lowest address first (R70). -/
def wordOfBytes (b0 b1 b2 b3 : Byte) : Word := b3 ++ b2 ++ b1 ++ b0

/-- The bytes of a word, the lowest address first (R70). -/
def bytesOfWord (w : Word) : List Byte :=
  [w.extractLsb' 0 8, w.extractLsb' 8 8, w.extractLsb' 16 8, w.extractLsb' 24 8]

/-- Words from a list of bytes, four at a time. -/
def wordsOfBytes : List Byte → List Word
  | b0 :: b1 :: b2 :: b3 :: rest => wordOfBytes b0 b1 b2 b3 :: wordsOfBytes rest
  | _ => []

/-- The word at address `a`. -/
def Memory.readWord (m : Memory) (a : Nat) : Word :=
  wordOfBytes (m.readByte a) (m.readByte (a + 1)) (m.readByte (a + 2)) (m.readByte (a + 3))

/-- `n` words from address `a` on. -/
def Memory.readWords (m : Memory) (a n : Nat) : List Word :=
  wordsOfBytes (readRun m.fill (4 * n) a m.cells)

/-- The cells of bytes from address `a` on. -/
def byteCells (fill : Fill) : Nat → List Byte → List Cell
  | _, [] => []
  | a, v :: vs => if fill.lists v then (a, v) :: byteCells fill (a + 1) vs else byteCells fill (a + 1) vs

/-- Bytes stored from address `a` on. -/
def Memory.writeBytes (m : Memory) (a : Nat) (vs : List Byte) : Memory :=
  { m with cells := m.cells.takeWhile (fun c => decide (c.1 < a)) ++ byteCells m.fill a vs
                    ++ seek (a + vs.length) m.cells }

/-- Words stored from address `a` on. -/
def Memory.writeWords (m : Memory) (a : Nat) (ws : List Word) : Memory :=
  m.writeBytes a (ws.flatMap bytesOfWord)

/-- One word stored at address `a`. -/
def Memory.writeWord (m : Memory) (a : Nat) (w : Word) : Memory := m.writeWords a [w]

/-- Every address +0.0 (R126). -/
def Memory.zeroed : Memory := ⟨.zero, []⟩

/-- The bus-visible arrays as reset number `draw` leaves them (R147). -/
def Memory.unspecifiedArrays (draw : Nat) : Memory := ⟨.arrays draw, []⟩

/-- The staging buffer as reset number `draw` leaves it (R147). -/
def Memory.unspecifiedStaging (draw : Nat) : Memory := ⟨.staging draw, []⟩

end Sys2Proof.Machine
end

