-- ==== Sys2Proof/Machine/Operands.lean ====
section
/-! DEFINITION. Operands (R86): the derived constants of the latched configuration, the arrays with their bases, bounds
and rights (R56 to R63, R69), the registers with their addresses and rights (R20 to R55, R69), and where an address of
the window leads. -/

namespace Sys2Proof.Machine

/-- PUSH's operand `ch = zext_32(w[15:8])` (R86). -/
def channelCount (arg : BitVec 8) : Word := arg.zeroExtend 32

/-- ALEN as a number (R38). -/
def ALen.toNat : ALen → Nat
  | .len512 => 512
  | .len1024 => 1024
  | .len2048 => 2048

/-- NFFT as a number (R39). -/
def NFft.toNat : NFft → Nat
  | .len2048 => 2048
  | .len4096 => 4096

/-- ALEN (R8). -/
def Latched.alenN (l : Latched) : Nat := l.alen.toNat

/-- NFFT (R8). -/
def Latched.nfftN (l : Latched) : Nat := l.nfft.toNat

/-- `B = NFFT/2 + 1`, the number of spectral bins (R8). -/
def Latched.bins (l : Latched) : Nat := l.nfftN / 2 + 1

/-- `Δ = FS / NFFT` as binary32, exact at both lengths (R8). -/
def Latched.delta (l : Latched) : Word := rne32 false Config.fs l.nfftN

/-- The bus-visible arrays (R56 to R63). -/
inductive Region where
  | ring
  | win
  | pad
  | xre
  | xim
  | mag
  | wht
  | scr
  | wcoef
  deriving DecidableEq, Repr

/-- Every array. -/
def Region.all : List Region := [.ring, .win, .pad, .xre, .xim, .mag, .wht, .scr, .wcoef]

/-- The base address of an array (R69). -/
def Region.base : Region → Nat
  | .ring => 0x10000
  | .win => 0x14000
  | .pad => 0x18000
  | .xre => 0x1C000
  | .xim => 0x20000
  | .mag => 0x24000
  | .wht => 0x28000
  | .scr => 0x2C000
  | .wcoef => 0x30000

/-- The current bound of an array, in words (R69). -/
def Region.bound (l : Latched) : Region → Nat
  | .ring => Config.cap
  | .win => Config.winLen
  | .pad => l.nfftN
  | .xre | .xim | .mag | .wht | .scr => l.bins
  | .wcoef => l.alenN

/-- Whether the bus may write the array at all: RWA rather than RO (R69, R73). -/
def Region.rwa : Region → Bool
  | .win | .pad | .xre | .xim | .mag | .wht => true
  | .ring | .scr | .wcoef => false

/-- The address of element `i` (R69). -/
def Region.addr (g : Region) (i : Nat) : Nat := g.base + 4 * i

/-- Element `i` of an array. -/
def State.elem (s : State) (g : Region) (i : Nat) : Word := s.mem.readWord (g.addr i)

/-- `n` elements of an array from index `i` on. -/
def State.elems (s : State) (g : Region) (i n : Nat) : List Word := s.mem.readWords (g.addr i) n

/-- Elements stored from index `i` on. -/
def State.setElems (s : State) (g : Region) (i : Nat) (ws : List Word) : State :=
  { s with mem := s.mem.writeWords (g.addr i) ws }

/-- The configuration registers in address order (R34). -/
inductive CfgReg where
  | fs
  | frame
  | winlen
  | alen
  | nfft
  | wkind
  | nfloor
  | htol
  | hunit
  | maxn
  | debounce
  | tthr
  | walpha
  | weps
  | hsub
  | silence
  deriving DecidableEq, Repr

/-- Every configuration register, in address order (R34). -/
def CfgReg.all : List CfgReg :=
  [.fs, .frame, .winlen, .alen, .nfft, .wkind, .nfloor, .htol,
   .hunit, .maxn, .debounce, .tthr, .walpha, .weps, .hsub, .silence]

/-- The byte offset of a configuration register (R35 to R50). -/
def CfgReg.addr : CfgReg → Nat
  | .fs => 0x080
  | .frame => 0x084
  | .winlen => 0x088
  | .alen => 0x08C
  | .nfft => 0x090
  | .wkind => 0x094
  | .nfloor => 0x098
  | .htol => 0x09C
  | .hunit => 0x0A0
  | .maxn => 0x0A4
  | .debounce => 0x0A8
  | .tthr => 0x0AC
  | .walpha => 0x0B0
  | .weps => 0x0B4
  | .hsub => 0x0B8
  | .silence => 0x0BC

/-- The value of a configuration register. -/
def Cfg.get (c : Cfg) : CfgReg → Word
  | .fs => c.fs
  | .frame => c.frame
  | .winlen => c.winlen
  | .alen => c.alen
  | .nfft => c.nfft
  | .wkind => c.wkind
  | .nfloor => c.nfloor
  | .htol => c.htol
  | .hunit => c.hunit
  | .maxn => c.maxn
  | .debounce => c.debounce
  | .tthr => c.tthr
  | .walpha => c.walpha
  | .weps => c.weps
  | .hsub => c.hsub
  | .silence => c.silence

/-- A raw value stored in a configuration register, with no check (R34). -/
def Cfg.set (c : Cfg) (v : Word) : CfgReg → Cfg
  | .fs => { c with fs := v }
  | .frame => { c with frame := v }
  | .winlen => { c with winlen := v }
  | .alen => { c with alen := v }
  | .nfft => { c with nfft := v }
  | .wkind => { c with wkind := v }
  | .nfloor => { c with nfloor := v }
  | .htol => { c with htol := v }
  | .hunit => { c with hunit := v }
  | .maxn => { c with maxn := v }
  | .debounce => { c with debounce := v }
  | .tthr => { c with tthr := v }
  | .walpha => { c with walpha := v }
  | .weps => { c with weps := v }
  | .hsub => { c with hsub := v }
  | .silence => { c with silence := v }

/-- The fields of a candidate slot (R55). -/
inductive CandField where
  | note
  | bin
  | freq
  | mag
  deriving DecidableEq, Repr

/-- A field of a record. -/
def Cand.get (c : Cand) : CandField → Word
  | .note => c.note
  | .bin => c.bin
  | .freq => c.freq
  | .mag => c.mag

/-- Every location of the window below the arrays (R69). -/
inductive Reg where
  | id
  | version
  | ctrl
  | status
  | port (p : Port)
  | pdata
  | wcur
  | rcur
  | ovrcnt
  | igncnt
  | fault
  | fcause
  | finfo
  | irqEn
  | irqPend
  | cfg (c : CfgReg)
  | prevRms
  | wfloor
  | wfirst
  | wend
  | lag
  | tRms
  | tFlux
  | tFlags
  | wNc
  | wDombin
  | wDomf
  | resSeq
  | resWend
  | resLag
  | resFlags
  | resRms
  | resFlux
  | resNcand
  | resDombin
  | resDomf
  | resFloor
  | cand (i : Nat) (f : CandField)
  deriving DecidableEq, Repr

/-- The control, status, port, cursor, fault and interrupt registers (R20 to R33). -/
def controlMap : List (Nat × Reg) :=
  [(0x000, .id), (0x004, .version), (0x008, .ctrl), (0x00C, .status),
   (0x010, .port .hcmd), (0x014, .port .pcmd), (0x018, .pdata), (0x01C, .port .ccmd),
   (0x020, .wcur), (0x024, .rcur), (0x028, .ovrcnt), (0x02C, .igncnt),
   (0x030, .fault), (0x034, .fcause), (0x038, .finfo), (0x03C, .irqEn), (0x040, .irqPend)]

/-- The configuration registers (R34). -/
def cfgMap : List (Nat × Reg) := CfgReg.all.map fun c => (c.addr, .cfg c)

/-- The rolling and per-step registers (R51, R52). -/
def datapathMap : List (Nat × Reg) :=
  [(0x0C0, .prevRms), (0x0C4, .wfloor), (0x0C8, .wfirst), (0x0CC, .wend), (0x0D0, .lag),
   (0x0D4, .tRms), (0x0D8, .tFlux), (0x0DC, .tFlags), (0x0E0, .wNc), (0x0E4, .wDombin),
   (0x0E8, .wDomf)]

/-- The scalar registers of the result bank (R54). -/
def bankMap : List (Nat × Reg) :=
  [(0x100, .resSeq), (0x104, .resWend), (0x108, .resLag), (0x10C, .resFlags), (0x110, .resRms),
   (0x114, .resFlux), (0x118, .resNcand), (0x11C, .resDombin), (0x120, .resDomf), (0x124, .resFloor)]

/-- The candidate slots, slot `i` at `0x140 + 16·i` (R55). -/
def candMap : List (Nat × Reg) :=
  (List.range 16).flatMap fun i =>
    [(0x140 + 16 * i, .cand i .note), (0x144 + 16 * i, .cand i .bin),
     (0x148 + 16 * i, .cand i .freq), (0x14C + 16 * i, .cand i .mag)]

/-- The register map (R69). -/
def regMap : List (Nat × Reg) := controlMap ++ cfgMap ++ datapathMap ++ bankMap ++ candMap

/-- The register at a byte address, if one is assigned there. -/
def regAt (a : Nat) : Option Reg := (regMap.find? (fun e => e.1 == a)).map Prod.snd

/-- The array an address lies in below its current bound, if any (R69). -/
def regionAt (l : Latched) (a : Nat) : Option Region :=
  Region.all.find? (fun g => decide (g.base ≤ a ∧ a < g.base + 4 * g.bound l))

/-- Where a word address of the window leads (R69). -/
inductive Location where
  /-- A register. -/
  | reg (r : Reg)
  /-- The element of an array at that address. -/
  | elem (g : Region)
  /-- Unassigned. -/
  | unassigned
  deriving DecidableEq, Repr

/-- The address map (R69). -/
def locate (l : Latched) (a : Nat) : Location :=
  match regAt a with
  | some r => .reg r
  | none =>
    match regionAt l a with
    | some g => .elem g
    | none => .unassigned

/-- A well-formed access: 4 bytes, word-aligned (R71). -/
def wellFormedAccess (a : Addr) (size : Nat) : Bool := size == 4 && a.toNat % 4 == 0

end Sys2Proof.Machine
end

