-- ==== Sys2Proof/Machine/Flags.lean ====
section
/-! DEFINITION. Flags: the lag and AVAIL, the interrupt level, the STATUS word (R23), T_FLAGS as a word (R52), the
interrupt sources (R135) and the fault codes with their FAULT bits (R30, R133). -/

namespace Sys2Proof.Machine

/-- `lag = (W - R) mod 2^32` in samples (R27). -/
def State.lagSamples (s : State) : Nat := (s.w - s.r).toNat

/-- The number of available steps, `lag / 128` (R23). -/
def State.avail (s : State) : Nat := s.lagSamples / Config.step

/-- The level of the interrupt output (R136). -/
def State.irq (s : State) : Bool := s.irqEn &&& s.irqPend != 0

/-- A flag as a 32-bit word with the flag in bit 0. -/
def bit (b : Bool) : Word := if b then 1 else 0

/-- STATE's code (R22). -/
def Mode.code : Mode → Word
  | .idle => 0
  | .running => 1
  | .stopping => 2
  | .faulted => 3

/-- cstage's code (R66). -/
def Stage.code : Stage → Word
  | .none => 0
  | .snapshot => 1
  | .transient => 2
  | .window => 3
  | .zeropad => 4
  | .fft => 5
  | .mag => 6
  | .whiten => 7
  | .solve => 8
  | .publish => 9

/-- STATUS (R23). AVAIL is five bits wide; by R27 the number fits. -/
def State.statusWord (s : State) : Word :=
  s.mode.code ||| (bit s.cbusy <<< 2) ||| (bit s.cwait <<< 3) ||| (s.cstage.code <<< 4)
    ||| (BitVec.ofNat 32 (s.avail % 32) <<< 8) ||| (bit s.irq <<< 13) ||| (s.stgCnt.zeroExtend 32 <<< 16)

/-- T_FLAGS and RES_FLAGS as words (R52, R54). -/
def TFlags.word (f : TFlags) : Word := bit f.tdet ||| (bit f.gated <<< 1) ||| (bit f.capped <<< 2)

/-- The interrupt sources (R135). -/
inductive IrqSource where
  | stepDone
  | stepAvail
  | overrun
  | haltFault
  | error
  | stopped
  deriving DecidableEq, Repr

/-- The IRQ_PEND bit of a source (R135). -/
def IrqSource.mask : IrqSource → BitVec 6
  | .stepDone => 0b000001
  | .stepAvail => 0b000010
  | .overrun => 0b000100
  | .haltFault => 0b001000
  | .error => 0b010000
  | .stopped => 0b100000

/-- The faults (R133). -/
inductive FaultCode where
  | malLen
  | malCh
  | config
  | illegal
  | busy
  | buserr
  | notallowed
  deriving DecidableEq, Repr

/-- The code FCAUSE holds (R133). -/
def FaultCode.code : FaultCode → BitVec 8
  | .malLen => 1
  | .malCh => 2
  | .config => 3
  | .illegal => 4
  | .busy => 5
  | .buserr => 6
  | .notallowed => 7

/-- The FAULT bit, `code - 1` (R30, R132). -/
def FaultCode.mask : FaultCode → BitVec 7
  | .malLen => 0b0000001
  | .malCh => 0b0000010
  | .config => 0b0000100
  | .illegal => 0b0001000
  | .busy => 0b0010000
  | .buserr => 0b0100000
  | .notallowed => 0b1000000

/-- Codes 1 and 2 are halting (R132). -/
def FaultCode.halting : FaultCode → Bool
  | .malLen | .malCh => true
  | .config | .illegal | .busy | .buserr | .notallowed => false

/-- The interrupt a fault sets: HALT_FAULT for codes 1 and 2, else ERROR (R132). -/
def FaultCode.source (c : FaultCode) : IrqSource := if c.halting then .haltFault else .error

end Sys2Proof.Machine
end

