-- ==== Sys2Proof/Machine/Ops.lean ====
section
/-! DEFINITION. The operations the meanings share: setting a pending interrupt, raising a fault (the block's one form of
exception: a record, R132, R138), refusing an access (R72), acceptance and completion of consumer commands (R118,
R119), the reset event (R147), and reading and writing registers (R69, R74, R75). -/

namespace Sys2Proof.Machine

/-- An interrupt source sets its bit of IRQ_PEND (R135). -/
def pend (src : IrqSource) (s : State) : State := { s with irqPend := s.irqPend ||| src.mask }

/-- `raise Fault(code, info)` (R132): the sticky bit, the cause, the info word and the interrupt; the launch's mark
`faults_seen` ORs the class in (R150). Nothing is saved and control goes nowhere (R138); CLRFAULT is the
acknowledgement (R139). -/
def raiseFault (c : FaultCode) (info : Word) (s : State) : State :=
  { s with
    fault := s.fault ||| c.mask
    fcause := c.code
    finfo := info
    irqPend := s.irqPend ||| c.source.mask
    faultsSeen := s.faultsSeen ||| c.mask }

/-- The acknowledgement of the fault record (R128). -/
def clearFault (s : State) : State := { s with fault := 0, fcause := 0, finfo := 0 }

/-- A saturating 32-bit increment (R28, R29, D43). -/
def satInc (v : Word) : Word := if v = 0xFFFFFFFF then v else v + 1

/-- What the bus answers to an access: data, and no error response (R72). -/
def answer (data : Word) (s : State) : State := { s with busData := data, busError := false }

/-- `raise BusError(addr)` (R72): a read returns 0, the bus answers with an error response, and the block records
Fault(6, addr) with the byte address zero-extended. -/
def raiseBusError (a : Addr) (s : State) : State :=
  { raiseFault .buserr (a.zeroExtend 32) s with busData := 0, busError := true }

/-- Teardown with no command running: STATE becomes IDLE and STOPPED is set (R127, R128). -/
def goIdle (s : State) : State := pend .stopped { s with mode := .idle }

/-- A teardown request from a live session: STOPPING while a command runs, else IDLE at once (R127, R128). -/
def requestTeardown (s : State) : State := if s.cbusy then { s with mode := .stopping } else goIdle s

/-- `finish()`, the end of the last event of a command (R119). -/
def finish (s : State) : State :=
  let t := { s with cbusy := false, cwait := false, cstage := .none, curcmd := 0 }
  if s.mode = .stopping then goIdle t else t

/-- STEP goes on to its next stage (R121). -/
def advance (st : Stage) (s : State) : State := { s with cstage := st }

/-- An accepted command starts: CBUSY, curcmd, cstage, and CWAIT where the first stage is SNAPSHOT (R118). -/
def startCommand (i : Instr) (first : Stage) (s : State) : State :=
  { s with
    cbusy := true
    curcmd := encode i
    cstage := first
    cwait := if first = .snapshot then true else s.cwait }

/-- Acceptance of a consumer command other than NOP, after ILLEGAL: AUTO, BUSY, STATE, in this order (R118, R137). -/
def accept (i : Instr) (first : Stage) (s : State) : State :=
  if s.auto then raiseFault .notallowed (encode i) s
  else if s.cbusy then raiseFault .busy (encode i) s
  else if s.mode ≠ .running then raiseFault .notallowed (encode i) s
  else startCommand i first s

/-- The event is the sequencer's and command `i` is the one it is executing (R65, R119; log 1). -/
def State.executing (s : State) (i : Instr) : Bool :=
  s.turn == .sequencer && s.cbusy && s.curcmd == encode i

/-- A command of one stage that never waits: in the sequencer's event the stage and `finish()`, else the command's
arrival at CCMD (R118, R119). -/
def singleStage (i : Instr) (st : Stage) (event : State → State) (s : State) : State :=
  if s.executing i then finish (event s) else accept i st s

/-- SNAPSHOT's wait condition (R96). -/
def State.snapshotReady (s : State) : Bool := decide (Config.step ≤ s.lagSamples) || s.mode != .running

/-- `reset_event()` of SRST (R129, R147): every register at its reset value, every array and STG a fresh draw of
`init_arrays`. The launch's marks, the agents' programs and the schedule are not the block's and stay. -/
def resetEvent (s : State) : State :=
  { State.reset with
    mem := Memory.unspecifiedArrays (s.resets + 1)
    stg := Memory.unspecifiedStaging (s.resets + 1)
    faultsSeen := s.faultsSeen
    refusedMark := s.refusedMark
    resets := s.resets + 1
    turns := s.turns
    waitFrom := s.waitFrom
    sched := s.sched
    turn := s.turn
    hostProg := s.hostProg
    producerProg := s.producerProg
    readerProg := s.readerProg
    busData := s.busData
    busError := s.busError }

/-- The value a register reads as; reserved bits and write-only ports read 0 (R20 to R55, R75). -/
def State.readReg (s : State) : Reg → Word
  | .id => Config.id
  | .version => Config.version
  | .ctrl => bit s.auto
  | .status => s.statusWord
  | .port _ => 0
  | .pdata => 0
  | .wcur => s.w
  | .rcur => s.r
  | .ovrcnt => s.ovrcnt
  | .igncnt => s.igncnt
  | .fault => s.fault.zeroExtend 32
  | .fcause => s.fcause.zeroExtend 32
  | .finfo => s.finfo
  | .irqEn => s.irqEn.zeroExtend 32
  | .irqPend => s.irqPend.zeroExtend 32
  | .cfg c => s.cfg.get c
  | .prevRms => s.prevRms
  | .wfloor => s.wfloor
  | .wfirst => bit s.wfirst
  | .wend => s.wend
  | .lag => s.lag
  | .tRms => s.tRms
  | .tFlux => s.tFlux
  | .tFlags => s.tFlags.word
  | .wNc => s.wNc
  | .wDombin => s.wDombin
  | .wDomf => s.wDomf
  | .resSeq => s.bank.seq
  | .resWend => s.bank.wend
  | .resLag => s.bank.lag
  | .resFlags => s.bank.flags.word
  | .resRms => s.bank.rms
  | .resFlux => s.bank.flux
  | .resNcand => s.bank.ncand
  | .resDombin => s.bank.dombin
  | .resDomf => s.bank.domf
  | .resFloor => s.bank.floor
  | .cand i f => (s.cand.getD i Cand.zero).get f

/-- The 32-bit word at an aligned address, if the location is assigned (R75). -/
def State.readLocation (s : State) (a : Addr) : Option Word :=
  match locate s.lat a.toNat with
  | .reg r => some (s.readReg r)
  | .elem _ => some (s.mem.readWord a.toNat)
  | .unassigned => none

/-- `MemRead(addr, size)` (R14, R72, R75): no effect on the location; the value, or BusError. -/
def busRead (a : Addr) (size : Nat) (s : State) : State :=
  if wellFormedAccess a size then
    match s.readLocation a with
    | some v => answer v s
    | none => raiseBusError a s
  else raiseBusError a s

/-- A write to CTRL: AUTO is bit 0, the rest is ignored (R21). -/
def writeCtrl (v : Word) (s : State) : State := { s with auto := v.getLsbD 0 }

/-- A write to IRQ_EN: bits 5:0 (R32). -/
def writeIrqEn (v : Word) (s : State) : State := { s with irqEn := v.extractLsb' 0 6 }

/-- A write to IRQ_PEND: writing 1 to a bit clears it (R33). -/
def writeIrqPend (v : Word) (s : State) : State :=
  { s with irqPend := s.irqPend &&& ~~~(v.extractLsb' 0 6) }

/-- A write to a configuration register: raw, and only in IDLE (R34, R72 d). -/
def writeCfg (a : Addr) (c : CfgReg) (v : Word) (s : State) : State :=
  if s.mode = .idle then { s with cfg := s.cfg.set v c } else raiseBusError a s

/-- Whether a bus write to an RWA array is performed (R73). -/
def State.arrayWritable (s : State) : Bool := (s.mode == .idle || s.mode == .running) && !s.cbusy

/-- A bus write to an array element: RO arrays and refused RWA writes raise BusError (R72 c, e; R73). -/
def writeElem (a : Addr) (g : Region) (v : Word) (s : State) : State :=
  if g.rwa && s.arrayWritable then { s with mem := s.mem.writeWord a.toNat v } else raiseBusError a s

end Sys2Proof.Machine
end

