-- ==== Sys2Proof/Machine/WindowTable.lean ====
section
/-! DEFINITION. The window coefficient table (R99): each entry is the exact real formula rounded once. The cosines are
computed in fixed point with 192 fractional bits, far below the distance of every entry from a rounding boundary
(log 14). -/

namespace Sys2Proof.Machine

/-- One in fixed point. -/
def fixOne : Int := 2 ^ 192

/-- π in fixed point. -/
def fixPi : Int := 0x3243F6A8885A308D313198A2E03707344A4093822299F31D0

/-- A fixed-point product. -/
def fixMul (a b : Int) : Int := a * b / fixOne

/-- The cosine series from a term on: each term is the one before times `-x²/((2j+1)(2j+2))`. -/
def cosTerms (x2 : Int) : Nat → Int → Int → Int
  | 0, _, _ => 0
  | n + 1, j, term => term + cosTerms x2 n (j + 1) (-(fixMul term x2) / ((2 * j + 1) * (2 * j + 2)))

/-- The cosine of a small fixed-point angle; 20 terms. -/
def fixCos (x : Int) : Int := cosTerms (fixMul x x) 20 0 fixOne

/-- `cos 0, cos θ, cos 2θ, …` from two consecutive ones, by `cos (n+1)θ = 2·cos θ·cos nθ - cos (n-1)θ`. -/
def cosRun (c1 : Int) : Nat → Int → Int → List Int
  | 0, _, _ => []
  | n + 1, a, b => a :: cosRun c1 n b (2 * fixMul c1 b - a)

/-- The four-term Blackman–Harris window at `c = cos θ_n`, with `cos 2θ = 2c² - 1` and `cos 3θ = 4c³ - 3c` (R99). -/
def blackmanHarris (c : Int) : Word :=
  let c2 := 2 * fixMul c c - fixOne
  let c3 := 4 * fixMul (fixMul c c) c - 3 * c
  rne32 false (35875 * fixOne - 48829 * c + 14128 * c2 - 1168 * c3).toNat (100000 * fixOne).toNat

/-- The Hann window at `c = cos θ_n` (R99). -/
def hann (c : Int) : Word := rne32 false (fixOne - c).toNat (2 * fixOne).toNat

/-- The window function of a kind (R99). -/
def windowAt : WKind → Int → Word
  | .blackmanHarris => blackmanHarris
  | .hann => hann

/-- The first half of the table, with `θ_n = 2πn/(L-1)` (R99). -/
def windowHalf (k : WKind) (len : Nat) : List Word :=
  let c1 := fixCos (2 * fixPi / (len - 1 : Int))
  (cosRun c1 (len / 2) fixOne c1).map (windowAt k)

/-- WCOEF[0..L-1]: both windows are symmetric (R99). -/
def windowTable (k : WKind) (len : Nat) : List Word := windowHalf k len ++ (windowHalf k len).reverse

end Sys2Proof.Machine
end

