-- ==== Sys2Proof/Machine/HostControl.lean ====
section
/-! DEFINITION. Host control (45_host_control.md): START with its legality check, latching and initialisation, STOP,
CLRFAULT and SRST. -/

namespace Sys2Proof.Machine

/-- A legal ALEN (R38, R125). -/
def ALen.ofWord (v : Word) : Option ALen :=
  if v = 512 then some .len512 else if v = 1024 then some .len1024
  else if v = 2048 then some .len2048 else none

/-- A legal NFFT (R39, R125). -/
def NFft.ofWord (v : Word) : Option NFft :=
  if v = 2048 then some .len2048 else if v = 4096 then some .len4096 else none

/-- A legal WKIND (R40, R125). -/
def WKind.ofWord (v : Word) : Option WKind :=
  if v = 0 then some .blackmanHarris else if v = 1 then some .hann else none

/-- A legal HUNIT (R43, R125). -/
def HUnit.ofWord (v : Word) : Option HUnit :=
  if v = 0 then some .hz else if v = 1 then some .cents else none

/-- Finite and not less than +0.0 (R125). -/
def finiteNonneg (v : Word) : Bool := isFinite v && !flt v 0

/-- Finite and greater than +0.0 (R125). -/
def finitePos (v : Word) : Bool := isFinite v && fgt v 0

/-- The legal set of a configuration register (R125). -/
def legal (c : CfgReg) (v : Word) : Bool :=
  match c with
  | .fs => v == 48000
  | .frame => v == 128
  | .winlen => v == 2048
  | .alen => (ALen.ofWord v).isSome
  | .nfft => (NFft.ofWord v).isSome
  | .wkind => (WKind.ofWord v).isSome
  | .nfloor => finiteNonneg v
  | .htol => finiteNonneg v
  | .hunit => (HUnit.ofWord v).isSome
  | .maxn => decide (1 ≤ v.toNat ∧ v.toNat ≤ 16)
  | .debounce => true
  | .tthr => isFinite v
  | .walpha => finitePos v && !fgt v 0x3F800000
  | .weps => finitePos v
  | .hsub => finiteNonneg v
  | .silence => finiteNonneg v

/-- The first illegal configuration register in address order (R124). -/
def firstIllegal (c : Cfg) : Option CfgReg := CfgReg.all.find? fun x => !legal x (c.get x)

/-- The latched form of a legal configuration (R67, R124). -/
def latch (c : Cfg) : Latched where
  alen := (ALen.ofWord c.alen).getD .len2048
  nfft := (NFft.ofWord c.nfft).getD .len4096
  wkind := (WKind.ofWord c.wkind).getD .blackmanHarris
  nfloor := c.nfloor
  htol := c.htol
  hunit := (HUnit.ofWord c.hunit).getD .hz
  maxn := Fin.ofNat 17 c.maxn.toNat
  hsub := c.hsub
  silence := c.silence

/-- The arrays after START: +0.0, and WCOEF computed (R99, R126). -/
def sessionMemory (l : Latched) : Memory :=
  Memory.zeroed.writeWords Region.wcoef.base (windowTable l.wkind l.alenN)

/-- `start_init()` under the latched configuration (R126). -/
def startInit (l : Latched) (s : State) : State :=
  { s with
    lat := l
    w := 0
    r := 0
    ovrcnt := 0
    mem := sessionMemory l
    prevRms := 0
    wfloor := 0
    wfirst := true
    stgCnt := 0
    wend := 0
    lag := 0
    tRms := 0
    tFlux := 0
    tFlags := ⟨false, false, false⟩
    wNc := 0
    wDombin := 0
    wDomf := 0
    wc := List.replicate 16 Cand.zero
    bank := Bank.zero
    cand := List.replicate 16 Cand.zero }

/-- START (R124). -/
def execStart (s : State) : Host.Outcome State Fault Refusal :=
  if s.mode ≠ .idle then .next (raiseFault .notallowed (encode .start) s)
  else
    match firstIllegal s.cfg with
    | some c => .next (raiseFault .config (BitVec.ofNat 32 c.addr) s)
    | none => .next { startInit (latch s.cfg) s with mode := .running }

/-- STOP (R127). -/
def execStop (s : State) : Host.Outcome State Fault Refusal :=
  if s.mode = .running then .next (requestTeardown s) else .next s

/-- CLRFAULT (R128). -/
def execClrfault (s : State) : Host.Outcome State Fault Refusal :=
  if s.mode = .faulted then .next (requestTeardown (clearFault s)) else .next (clearFault s)

/-- SRST (R129). A key other than 0xA5 makes the word ILLEGAL (R88, R89); the decoder never gives such a term. -/
def execSrst (key : BitVec 8) (s : State) : Host.Outcome State Fault Refusal :=
  if key = srstKey then .next (resetEvent s)
  else .next (raiseFault .illegal (encode (.srst key)) s)

end Sys2Proof.Machine
end

