-- ==== Sys2Proof/Machine/Spectral.lean ====
section
/-! DEFINITION. The spectral analyzer (41_spectral.md): WINDOW, ZEROPAD, FFT, MAG and WHITEN. ALEN, NFFT, B and Δ are the
latched values. -/

namespace Sys2Proof.Machine

/-- WINDOW's stage event (R100). -/
def windowEvent (s : State) : State :=
  let n := s.lat.alenN
  s.setElems .pad 0
    (List.zipWith fmul (s.elems .win (Config.winLen - n) n) (s.elems .wcoef 0 n))

/-- WINDOW (R100). -/
def execWindow (s : State) : Host.Outcome State Fault Refusal :=
  .next (singleStage .window .window windowEvent s)

/-- ZEROPAD's stage event (R101). -/
def zeropadEvent (s : State) : State :=
  s.setElems .pad s.lat.alenN (List.replicate (s.lat.nfftN - s.lat.alenN) 0)

/-- ZEROPAD (R101). -/
def execZeropad (s : State) : Host.Outcome State Fault Refusal :=
  .next (singleStage .zeropad .zeropad zeropadEvent s)

/-- A zero with the sign of a free value: +0.0 or -0.0. -/
def freeZero (w : Word) : Word := fpack (fsign w) 0

/-- Any finite value: the free value itself where it is finite; else the exponent field's low bit is cleared. -/
def freeFinite (w : Word) : Word := if isFinite w then w else w &&& 0xFF7FFFFF

/-- `Σ|x| < 2^127`, in units of 2^-149 (R103 e). -/
def sumBounded (x : List Word) : Bool := decide ((x.map fmag).sum < 2 ^ 276)

/-- Bin `k` of `fft_impl`: the free function with the laws of R103 imposed on it, no more. (b) zero, (c) impulse,
(d) DC is real, (e) finite in finite out; (a) holds because it is a function; (f) with `fft_err` unbounded; (g) a NaN
or infinite input leaves the output free. -/
def fftBin (n : Nat) (x : List Word) (k : Nat) : Word × Word :=
  let raw := Config.fftRaw n x k
  if x.all isZero then (freeZero raw.1, freeZero raw.2)
  else if x.all isFinite then
    if x.tail.all isZero then (x.headD 0, freeZero raw.2)
    else
      ( if sumBounded x then freeFinite raw.1 else raw.1,
        if k = 0 then freeZero raw.2 else if sumBounded x then freeFinite raw.2 else raw.2 )
  else raw

/-- `fft_impl`: bins 0 … N/2 (R102). -/
def fftImpl (n : Nat) (x : List Word) : List (Word × Word) :=
  (List.range (n / 2 + 1)).map (fftBin n x)

/-- FFT's stage event (R102). -/
def fftEvent (s : State) : State :=
  let out := fftImpl s.lat.nfftN (s.elems .pad 0 s.lat.nfftN)
  (s.setElems .xre 0 (out.map Prod.fst)).setElems .xim 0 (out.map Prod.snd)

/-- FFT (R102). -/
def execFft (s : State) : Host.Outcome State Fault Refusal :=
  .next (singleStage .fft .fft fftEvent s)

/-- The modulus of one bin: both squares, then the sum, then the root (R104). -/
def modulus (re im : Word) : Word := fsqrt (fadd (fmul re re) (fmul im im))

/-- MAG's stage event (R104). -/
def magEvent (s : State) : State :=
  s.setElems .mag 0 (List.zipWith modulus (s.elems .xre 0 s.lat.bins) (s.elems .xim 0 s.lat.bins))

/-- MAG (R104). -/
def execMag (s : State) : Host.Outcome State Fault Refusal :=
  .next (singleStage .mag .mag magEvent s)

/-- The scan of an ascending argmax: the next bin, the best bin so far and its value. A bin replaces the best one only
when it is strictly greater, so ties keep the lower bin and a NaN never wins (R106, R111). -/
def argmaxScan : List Word → Nat → Nat → Word → Nat
  | [], _, best, _ => best
  | v :: vs, k, best, top =>
    if fgt v top then argmaxScan vs (k + 1) k v else argmaxScan vs (k + 1) best top

/-- The bin of 1 … B-1 with the largest value; bin 0 is excluded (R106, R111). -/
def argmax (xs : List Word) : Nat := argmaxScan (xs.drop 2) 2 1 (xs.getD 1 0)

/-- The mean magnitude of a step, summed in ascending order (R105). -/
def meanMag (mags : List Word) (bins : Nat) : Word := fdiv (mags.foldl fadd 0) (f32 bins)

/-- The whitening floor before the clamp: the mean itself first, then the moving average (R105). -/
def floorEstimate (first : Bool) (old alpha e : Word) : Word :=
  if first then e else fadd old (fmul alpha (fsub e old))

/-- WHITEN's stage event (R105, R106). -/
def whitenEvent (s : State) : State :=
  let mags := s.elems .mag 0 s.lat.bins
  let d := fclampmin (floorEstimate s.wfirst s.wfloor s.cfg.walpha (meanMag mags s.lat.bins)) s.cfg.weps
  let wht := mags.map fun m => fdiv m d
  let best := argmax wht
  let t := s.setElems .wht 0 wht
  { t with
    wfirst := false
    wfloor := d
    wDombin := BitVec.ofNat 32 best
    wDomf := fmul (f32 best) s.lat.delta }

/-- WHITEN (R105). -/
def execWhiten (s : State) : Host.Outcome State Fault Refusal :=
  .next (singleStage .whiten .whiten whitenEvent s)

end Sys2Proof.Machine
end

