-- ==== Sys2Proof/Machine/Chord.lean ====
section
/-! DEFINITION. The chord solver (43_chord_solver.md): the tolerance window, decided exactly (R112), the skip test (R113),
the MIDI mapping (R114) and SOLVE (R115). NF, TOL, HUNIT, MAXN, β, SIL, B and Δ are the latched values. -/

namespace Sys2Proof.Machine

/-- `n / 2^e` in lowest terms. -/
def reduceDyadic : Nat → Nat → Nat × Nat
  | 0, n => (n, 0)
  | e + 1, n => if n % 2 = 0 then reduceDyadic e (n / 2) else (n, e + 1)

/-- The exact test `(k/t)^1200 ≤ 2^(m/2^e)` on whole numbers (R112). -/
def centsExact (k t m e : Nat) : Bool := decide (k ^ (1200 * 2 ^ e) ≤ 2 ^ m * t ^ (1200 * 2 ^ e))

/-- The exact test decided by repeated squaring of an enclosure `lo·2^x ≤ v·2^128 ≤ hi·2^x` of `v`, `d` squarings being
left; no answer where the enclosure has grown too wide. -/
def centsBySquaring (m : Nat) : Nat → Nat → Nat → Nat → Option Bool
  | 0, lo, hi, x =>
    if hi ≤ 2 ^ 129 ∧ x + 1 ≤ m then some true
    else if 2 ^ 128 ≤ lo ∧ m < x then some false
    else none
  | d + 1, lo, hi, x =>
    if hi ≤ 2 ^ 129 ∧ (x + 1) * 2 ^ (d + 1) ≤ m then some true
    else if 2 ^ 128 ≤ lo ∧ m < x * 2 ^ (d + 1) then some false
    else
      let c := Nat.log2 (lo * lo) - 256
      centsBySquaring m d (lo * lo / 2 ^ (128 + c)) (hi * hi / 2 ^ (128 + c) + 1) (2 * x + c)

/-- The squaring started from `(k/t)^1200`, `e` squarings to go. -/
def centsFast (k t m e : Nat) : Option Bool :=
  let q := k ^ 1200 * 2 ^ 128 / t ^ 1200
  let c := Nat.log2 q - 128
  centsBySquaring m e (q / 2 ^ c) (q / 2 ^ c + 1) c

/-- `k/t ≤ 2^(TOL/1200)`, TOL in units of 2^-149, decided exactly (R112): `centsExact`, reached without its huge powers
wherever a bound settles it (log 15). -/
def centsLe (k t tol : Nat) : Bool :=
  let f := reduceDyadic 149 tol
  if k ≤ t then true
  else if 1200 * 2 ^ f.2 * (Nat.log2 k + 1) ≤ f.1 then true
  else if f.2 = 0 then centsExact k t f.1 f.2
  else
    match centsFast k t f.1 f.2 with
    | some b => b
    | none => centsExact k t f.1 f.2

/-- The test of R112 for bin `k` against the target bin `t = h·kc`, every quantity exact. TOL is not negative, by
legality (R125). -/
def inTolerance (l : Latched) (t k : Nat) : Bool :=
  match l.hunit with
  | .hz => decide (((k : Int) - t).natAbs * Config.fs * 2 ^ 149 ≤ fmag l.htol * l.nfftN)
  | .cents => centsLe k t (fmag l.htol) && centsLe t k (fmag l.htol)

/-- The furthest bin above `k` that a run of bins in tolerance reaches. -/
def reachUp (p : Nat → Bool) : Nat → Nat → Nat
  | 0, k => k
  | n + 1, k => if p (k + 1) then reachUp p n (k + 1) else k

/-- The furthest bin below `k`, not below 1, that a run of bins in tolerance reaches. -/
def reachDown (p : Nat → Bool) : Nat → Nat → Nat
  | 0, k => k
  | n + 1, k => if p (k - 1) then reachDown p n (k - 1) else k

/-- The lowest bin of `near(kc, h)`, the target bin being `t = h·kc` (R112). -/
def nearLow (l : Latched) (t : Nat) : Nat := reachDown (inTolerance l t) (t - 1) t

/-- The highest bin of `near(kc, h)` (R112). -/
def nearHigh (l : Latched) (t : Nat) : Nat := reachUp (inTolerance l t) (l.bins - 1 - t) t

/-- The window `near(kc, h)` as the list of its bins (R112). -/
def near (l : Latched) (t : Nat) : List Nat := List.range' (nearLow l t) (nearHigh l t + 1 - nearLow l t)

/-- A function applied to the bins `lo … hi` of a spectrum. -/
def mapBins (lo hi : Nat) (f : Word → Word) (xs : List Word) : List Word :=
  xs.take lo ++ ((xs.drop lo).take (hi + 1 - lo)).map f ++ xs.drop (lo + (hi + 1 - lo))

/-- A function applied to the bins of `near(kc, h)`. -/
def mapNear (l : Latched) (t : Nat) (f : Word → Word) (xs : List Word) : List Word :=
  mapBins (nearLow l t) (nearHigh l t) f xs

/-- The skip test (R113): the bin lies in the window of a harmonic `h ≥ 2`, up to Nyquist, of a candidate emitted
earlier in the same SOLVE. -/
def skipped (l : Latched) (emitted : List Cand) (k : Nat) : Bool :=
  emitted.any fun c =>
    (List.range' 2 ((l.bins - 1) / c.bin.toNat - 1)).any fun h => inTolerance l (h * c.bin.toNat) k

/-- The MIDI note of a bin (R114): `round m` is the number of half steps `j - 1/2`, j = 1 … 127, that
`m = 69 + 12·log2 (kc·Δ/440)` exceeds, that is `(kc·Δ/440)^24 > 2^(2j - 139)`; the count is in 0 … 127. -/
def midi (l : Latched) (kc : Nat) : Nat :=
  let f := (kc * Config.fs) ^ 24 * 2 ^ 139
  let a := (440 * l.nfftN) ^ 24
  (List.range 127).countP fun j => decide (a * 4 ^ (j + 1) < f)

/-- The record SOLVE emits for a peak (R115 step 3). -/
def candidate (l : Latched) (k : Nat) (a : Word) : Cand :=
  ⟨BitVec.ofNat 32 (midi l k), BitVec.ofNat 32 k, fmul (f32 k) l.delta, a⟩

/-- The bins near a fundamental become +0.0 (R115). -/
def strip (l : Latched) (k : Nat) (scr : List Word) : List Word := mapNear l k (fun _ => 0) scr

/-- The subtraction at the harmonics `2 … ⌊(B-1)/k⌋` of a fundamental (R115 steps 4 and 5). -/
def subtractHarmonics (l : Latched) (k : Nat) (a : Word) (scr : List Word) : List Word :=
  (List.range' 2 ((l.bins - 1) / k - 1)).foldl
    (fun xs h => mapNear l (h * k) (fun v => fmax0 (fsub v (fmul l.hsub a))) xs) scr

/-- What the solver's loop leaves: the scratch spectrum, the emitted candidates in order, and CAPPED. -/
structure Solved where
  scr : List Word
  cands : List Cand
  capped : Bool
  deriving DecidableEq, Repr

/-- The solver's loop (R115) with the number of iterations that MAXN still allows. -/
def solveLoop (l : Latched) : Nat → List Word → List Cand → Solved
  | 0, scr, cs => ⟨scr, cs, true⟩
  | n + 1, scr, cs =>
    let k := argmax scr
    let a := scr.getD k 0
    if !fgt a l.nfloor then ⟨scr, cs, false⟩
    else if skipped l cs k then solveLoop l n (strip l k scr) cs
    else solveLoop l n (subtractHarmonics l k a (strip l k scr)) (cs ++ [candidate l k a])

/-- SOLVE's result for a spectrum: nothing when gated, else the loop's (R115). -/
def solve (l : Latched) (gated : Bool) (wht : List Word) : Solved :=
  if gated then ⟨wht, [], false⟩ else solveLoop l l.maxn.val wht []

/-- SOLVE's stage event (R115). Entries of WC at or above W_NC keep what they hold (R53, log 16). -/
def solveEvent (s : State) : State :=
  let gated := flt s.tRms s.lat.silence
  let res := solve s.lat gated (s.elems .wht 0 s.lat.bins)
  let t := s.setElems .scr 0 res.scr
  { t with
    wc := res.cands ++ s.wc.drop res.cands.length
    wNc := BitVec.ofNat 32 res.cands.length
    tFlags := { s.tFlags with gated := gated, capped := res.capped } }

/-- SOLVE (R115). -/
def execSolve (s : State) : Host.Outcome State Fault Refusal :=
  .next (singleStage .solve .solve solveEvent s)

end Sys2Proof.Machine
end

