-- ==== Sys2Proof/Machine/Ring.lean ====
section
/-! DEFINITION. The ring buffer (40_ring_buffer.md): PDATA staging, PUSH with its overrun check, NOP and SNAPSHOT. -/

namespace Sys2Proof.Machine

/-- A PDATA write (R92): stored while fewer than 128 samples are staged, counted up to 255. -/
def stageSample (v : Word) (s : State) : State :=
  { s with
    stg := if s.stgCnt.toNat < Config.step then s.stg.writeWord (4 * s.stgCnt.toNat) v else s.stg
    stgCnt := if s.stgCnt = 255 then 255 else s.stgCnt + 1 }

/-- The staged frame, STG[0..127] (R93). -/
def State.stagedFrame (s : State) : List Word := s.stg.readWords 0 Config.step

/-- A PUSH outside RUNNING: counted and discarded (R93). -/
def ignorePush (s : State) : State := { s with igncnt := satInc s.igncnt, stgCnt := 0 }

/-- A malformed frame: discarded, the session is FAULTED, the fault recorded (R93, R132). -/
def rejectFrame (c : FaultCode) (info : Word) (s : State) : State :=
  raiseFault c info { s with stgCnt := 0, mode := .faulted }

/-- The overrun check of a well-formed PUSH (R94). -/
def overrunCheck (s : State) : State :=
  if Config.cap ≤ s.lagSamples then
    pend .overrun { s with r := s.r + 128, ovrcnt := satInc s.ovrcnt }
  else s

/-- Words stored in RING from ring index `(W + 0) mod 2048` on, wrapping at the end (R93). -/
def ringStore (ws : List Word) (s : State) : State :=
  let start := s.w.toNat % Config.cap
  let tail := Config.cap - start
  (s.setElems .ring start (ws.take tail)).setElems .ring 0 (ws.drop tail)

/-- The commit of a well-formed frame after the overrun check (R93). -/
def commitFrame (s : State) : State :=
  let t := ringStore s.stagedFrame s
  pend .stepAvail { t with w := s.w + 128, stgCnt := 0 }

/-- PUSH (R93): ignored outside RUNNING, then the channel check, then the length check, then the commit. -/
def execPush (ch : BitVec 8) (s : State) : Host.Outcome State Fault Refusal :=
  if s.mode ≠ .running then .next (ignorePush s)
  else if channelCount ch ≠ 1 then .next (rejectFrame .malCh (channelCount ch) s)
  else if s.stgCnt ≠ 128 then .next (rejectFrame .malLen (s.stgCnt.zeroExtend 32) s)
  else .next (commitFrame (overrunCheck s))

/-- NOP (R95, R118): accepted in every STATE unless AUTO or a running command refuses it; it completes in its
acceptance event and has no effect. -/
def execNop (s : State) : Host.Outcome State Fault Refusal :=
  if s.auto then .next (raiseFault .notallowed (encode .nop) s)
  else if s.cbusy then .next (raiseFault .busy (encode .nop) s)
  else .next s

/-- The newest 2048 samples, oldest first: RING[(w - 2048 + i) mod 2048] for i = 0 … 2047 (R96). -/
def State.ringWindow (s : State) : List Word :=
  let start := s.w.toNat % Config.cap
  s.elems .ring start (Config.cap - start) ++ s.elems .ring 0 start

/-- SNAPSHOT's uncancelled completion without `finish()` (R96): LAG, WIN, WEND, and R becomes W. -/
def takeSnapshot (s : State) : State :=
  let t := s.setElems .win 0 s.ringWindow
  { t with
    cwait := false
    lag := BitVec.ofNat 32 s.avail
    wend := s.w
    r := s.w }

/-- SNAPSHOT (R96, R118, R119): its arrival, or the sequencer's completion event. The event is enabled when the wait
condition holds; a session that is not RUNNING cancels it. Held, nothing changes (log 12). -/
def execSnapshot (s : State) : Host.Outcome State Fault Refusal :=
  if s.executing .snapshot then
    if !s.snapshotReady then .next s
    else if s.mode ≠ .running then .next (finish s)
    else .next (finish (takeSnapshot s))
  else .next (accept .snapshot .snapshot s)

end Sys2Proof.Machine
end

