-- ==== Sys2Proof/Machine/Transient.lean ====
section
/-! DEFINITION. The transient detector (42_transient.md). -/

namespace Sys2Proof.Machine

/-- The sum of squares, oldest to newest (R108). -/
def sumSquares (xs : List Word) : Word := xs.foldl (fun acc x => fadd acc (fmul x x)) 0

/-- The RMS of a frame of 128 samples; 128.0 is 0x43000000 (R108). -/
def rmsOf (xs : List Word) : Word := fsqrt (fdiv (sumSquares xs) 0x43000000)

/-- The current frame: the newest 128 samples of the window, WIN[1920..2047] (R108). -/
def State.currentFrame (s : State) : List Word :=
  s.elems .win (Config.winLen - Config.step) Config.step

/-- TRANSIENT's stage event (R108). -/
def transientEvent (s : State) : State :=
  let rms := rmsOf s.currentFrame
  let flux := fsub rms s.prevRms
  { s with
    tRms := rms
    tFlux := flux
    tFlags := { s.tFlags with tdet := fgt flux s.cfg.tthr }
    prevRms := rms }

/-- TRANSIENT (R108). -/
def execTransient (s : State) : Host.Outcome State Fault Refusal :=
  .next (singleStage .transient .transient transientEvent s)

end Sys2Proof.Machine
end

