-- ==== Sys2Proof/Machine/Sequencer.lean ====
section
/-! DEFINITION. The sequencer (44_sequencer.md): PUBLISH, STEP and the AUTO start. -/

namespace Sys2Proof.Machine

/-- CAND after a PUBLISH: the first W_NC working candidates, then zero records (R120). -/
def State.published (s : State) : List Cand :=
  (List.range 16).map fun i => if i < s.wNc.toNat then s.wc.getD i Cand.zero else Cand.zero

/-- PUBLISH's stage event (R120). -/
def publishEvent (s : State) : State :=
  pend .stepDone
    { s with
      bank := { seq := s.bank.seq + 1
                wend := s.wend
                lag := s.lag
                flags := s.tFlags
                rms := s.tRms
                flux := s.tFlux
                ncand := s.wNc
                dombin := s.wDombin
                domf := s.wDomf
                floor := s.wfloor }
      cand := s.published }

/-- PUBLISH (R120). -/
def execPublish (s : State) : Host.Outcome State Fault Refusal :=
  .next (singleStage .publish .publish publishEvent s)

/-- The sequencer's event of a STEP: the stage cstage names, then the next stage, or `finish()` (R121). -/
def stepStage (s : State) : Host.Outcome State Fault Refusal :=
  match s.cstage with
  | .snapshot =>
    if !s.snapshotReady then .next s
    else if s.mode ≠ .running then .next (finish s)
    else .next (advance .transient (takeSnapshot s))
  | .transient => .next (advance .window (transientEvent s))
  | .window => .next (advance .zeropad (windowEvent s))
  | .zeropad => .next (advance .fft (zeropadEvent s))
  | .fft => .next (advance .mag (fftEvent s))
  | .mag => .next (advance .whiten (magEvent s))
  | .whiten => .next (advance .solve (whitenEvent s))
  | .solve => .next (advance .publish (solveEvent s))
  | .publish => .next (finish (publishEvent s))
  | .none => .fault .lostCommand

/-- STEP (R118, R121): its arrival, or the event of its current stage. -/
def execStep (s : State) : Host.Outcome State Fault Refusal :=
  if s.executing .step then stepStage s else .next (accept .step .snapshot s)

/-- An AUTO start is enabled (R122). -/
def State.autoReady (s : State) : Bool :=
  s.auto && s.mode == .running && !s.cbusy && decide (Config.step ≤ s.lagSamples)

/-- The AUTO start event (R122). -/
def autoStart (s : State) : State := startCommand .step .snapshot s

end Sys2Proof.Machine
end

