-- ==== Sys2Proof/Machine/Dispatch.lean ====
section
/-! DEFINITION. The meaning of every command: one arm per row of the opcode table. -/

namespace Sys2Proof.Machine

def exec (i : Instr) (s : State) : Host.Outcome State Fault Refusal :=
  match i with
  | .push ch => Sys2Proof.Machine.execPush ch s
  | .nop => Sys2Proof.Machine.execNop s
  | .snapshot => Sys2Proof.Machine.execSnapshot s
  | .transient => Sys2Proof.Machine.execTransient s
  | .window => Sys2Proof.Machine.execWindow s
  | .zeropad => Sys2Proof.Machine.execZeropad s
  | .fft => Sys2Proof.Machine.execFft s
  | .mag => Sys2Proof.Machine.execMag s
  | .whiten => Sys2Proof.Machine.execWhiten s
  | .solve => Sys2Proof.Machine.execSolve s
  | .publish => Sys2Proof.Machine.execPublish s
  | .step => Sys2Proof.Machine.execStep s
  | .start => Sys2Proof.Machine.execStart s
  | .stop => Sys2Proof.Machine.execStop s
  | .clrfault => Sys2Proof.Machine.execClrfault s
  | .srst key => Sys2Proof.Machine.execSrst key s

end Sys2Proof.Machine
end

