-- ==== Sys2Proof/Machine/Bus.lean ====
section
/-! DEFINITION. Writes on the bus (20_memory.md): a word written to a command port is decoded and executed, every other
location stores, stages or refuses. Reads are in Machine/Ops.lean. -/

namespace Sys2Proof.Machine

/-- A word arrives at a command port (R88, R89): the command it decodes to is executed; an ILLEGAL word raises
Fault(4, w) and has no other effect. -/
def submit (p : Port) (w : Word) (s : State) : Host.Outcome State Fault Refusal :=
  match decode p w with
  | .ok i => exec i s
  | .error _ => .next (raiseFault .illegal w s)

/-- A write to a register that is no command port (R21, R32, R33, R34, R72 c, R92). -/
def writeReg (a : Addr) (r : Reg) (v : Word) (s : State) : State :=
  match r with
  | .ctrl => writeCtrl v s
  | .irqEn => writeIrqEn v s
  | .irqPend => writeIrqPend v s
  | .pdata => stageSample v s
  | .cfg c => writeCfg a c v s
  | _ => raiseBusError a s

/-- `MemWrite(addr, size, v)` (R14, R69, R71, R72). -/
def busWrite (a : Addr) (size : Nat) (v : Word) (s : State) : Host.Outcome State Fault Refusal :=
  if wellFormedAccess a size then
    match locate s.lat a.toNat with
    | .reg (.port p) => submit p v (answer 0 s)
    | .reg r => .next (writeReg a r v (answer 0 s))
    | .elem g => .next (writeElem a g v (answer 0 s))
    | .unassigned => .next (raiseBusError a s)
  else .next (raiseBusError a s)

end Sys2Proof.Machine
end

