-- ==== Sys2Proof/Machine/Agents.lean ====
section
/-! DEFINITION. The agents (R11): which of them have an enabled event (R16, R119, R122, R149), which one moves next (the
schedule, R10), and the event it performs. -/

namespace Sys2Proof.Machine

/-- What is left of an agent's program; the sequencer has none. -/
def State.prog (s : State) : Agent → List AgentOp
  | .producer => s.producerProg
  | .host => s.hostProg
  | .reader => s.readerProg
  | .sequencer => []

/-- The rest of an agent's program. -/
def State.setProg (s : State) (who : Agent) (ops : List AgentOp) : State :=
  match who with
  | .producer => { s with producerProg := ops }
  | .host => { s with hostProg := ops }
  | .reader => { s with readerProg := ops }
  | .sequencer => s

/-- The sequencer has an enabled event: a running command that is not held (R119), or an AUTO start (R122). -/
def State.sequencerReady (s : State) : Bool :=
  (s.cbusy && (s.cstage != .snapshot || s.snapshotReady)) || s.autoReady

/-- The agent has an enabled event (R16, R149). -/
def State.enabled (s : State) : Agent → Bool
  | .sequencer => s.sequencerReady
  | .producer => !s.producerProg.isEmpty
  | .host => !s.hostProg.isEmpty
  | .reader => !s.readerProg.isEmpty

/-- The agents with an enabled event. -/
def State.enabledAgents (s : State) : List Agent :=
  [Agent.producer, .sequencer, .host, .reader].filter s.enabled

/-- The sequencer has waited as long as its fairness allows (R17). -/
def State.sequencerDue (s : State) : Bool :=
  s.sequencerReady && decide (s.waitFrom + Config.patience s.waitFrom ≤ s.turns)

/-- A choice beyond the laid-down schedule is counted; a wait of the sequencer ends where it moves or has no event (R17). -/
def State.countChoice (s : State) (who : Agent) : State :=
  { s with
    sched := []
    turns := s.turns + 1
    waitFrom := if s.sequencerReady && who != .sequencer then s.waitFrom else s.turns + 1 }

/-- The agent that moves next, and the state with that choice used up: the first agent of the schedule that has an
enabled event; past the schedule's end the only enabled agent, or a free choice among several (R10) that does not pass the
sequencer over for ever (R17; log 2). -/
def chooseAgent (s : State) : Option (Agent × State) :=
  match s.sched.dropWhile (fun a => !s.enabled a) with
  | a :: rest => some (a, { s with sched := rest })
  | [] =>
    match s.enabledAgents with
    | [] => none
    | [a] => some (a, s.countChoice a)
    | a :: b :: more =>
      let who := if s.sequencerDue then .sequencer
        else (a :: b :: more).getD (Config.schedule s.turns % (more.length + 2)) a
      some (who, s.countChoice who)

/-- The sequencer is held in SNAPSHOT's wait (R16, R96). -/
def State.held (s : State) : Bool := s.cwait && !s.sequencerReady

/-- Reading the address leaves the block as it is: the read is admitted, or its refusal is the fault on record. -/
def quietRead (a : Addr) (s : State) : Bool :=
  let t := busRead a 4 s
  t.fault == s.fault && t.fcause == s.fcause && t.finfo == s.finfo && t.irqPend == s.irqPend &&
    t.faultsSeen == s.faultsSeen

/-- The agent can change nothing by itself: its program is exhausted, or stands at a POLL whose reads neither meet the
condition nor change the block (R91). -/
def State.waits (s : State) (who : Agent) : Bool :=
  match s.prog who with
  | [] => true
  | .poll a mask val :: _ => quietRead a s && (busRead a 4 s).busData &&& mask != val
  | .read _ _ :: _ => false
  | .write _ _ _ :: _ => false

/-- Nothing can change any more: the sequencer is held and no agent is left that could lift its wait (R149, U12). -/
def State.stalled (s : State) : Bool := s.held && s.waits .producer && s.waits .host && s.waits .reader

/-- The sequencer's event (R119, R122): the current stage of the command in curcmd, or an AUTO start. -/
def sequencerEvent (s : State) : Host.Outcome State Fault Refusal :=
  if s.cbusy then
    match decode .ccmd s.curcmd with
    | .ok i => if i = .nop then .fault .lostCommand else exec i s
    | .error _ => .fault .lostCommand
  else .next (autoStart s)

/-- The location is one of the Producer's two ports, PCMD and PDATA. -/
def producerPort (a : Addr) : Bool :=
  regAt a.toNat == some (.port .pcmd) || regAt a.toNat == some .pdata

/-- An agent other than the Producer writes one of the Producer's ports: R131 gives that sender no move. -/
def outsideRole (who : Agent) (a : Addr) (size : Nat) : Bool :=
  who != .producer && wellFormedAccess a size && producerPort a

/-- The launch's mark `refused` (R150) on a write outside its sender's role. The write itself is performed, since the block
checks no roles (R141; log 7). -/
def markRole (who : Agent) (a : Addr) (size : Nat) (s : State) : State :=
  if outsideRole who a size then { s with refusedMark := true } else s

/-- One operation of an agent's program, the rest of which is `rest` (R90, R91). Every agent has the same rights (R141). -/
def performOp (who : Agent) (op : AgentOp) (rest : List AgentOp) (s : State) :
    Host.Outcome State Fault Refusal :=
  match op with
  | .write a size v => busWrite a size v (markRole who a size (s.setProg who rest))
  | .read a size => .next (busRead a size (s.setProg who rest))
  | .poll a mask val =>
    let t := busRead a 4 s
    .next (if t.busData &&& mask = val then t.setProg who rest else t)

/-- The event of the agent whose turn it is. -/
def agentEvent (who : Agent) (s : State) : Host.Outcome State Fault Refusal :=
  match who with
  | .sequencer => sequencerEvent s
  | .producer | .host | .reader =>
    match s.prog who with
    | [] => .next s
    | op :: rest => performOp who op rest s

/-- The agent that writes a port's commands (R11, R87). -/
def portAgent : Port → Agent
  | .pcmd => .producer
  | .ccmd | .hcmd => .host

/-- The write of a word to a port as the very next event: first of its agent's program, and its agent's turn (log 6). -/
def issueNext (p : Port) (w : Word) (s : State) : State :=
  let who := portAgent p
  { s.setProg who (.write (BitVec.ofNat 18 p.addr) 4 w :: s.prog who) with sched := who :: s.sched }

end Sys2Proof.Machine
end

