-- ==== Sys2Proof/Machine/Step.lean ====
section
/-! DEFINITION. One event of the block (R77): the agent the schedule chooses performs its enabled event. -/

namespace Sys2Proof.Machine

/-- One event. A run in which nothing can lift SNAPSHOT's wait any more is stuck; with no enabled event it is over
(R149). -/
def step (s : State) : Host.Outcome State Fault Refusal :=
  if s.stalled then .fault .stuck
  else
    match chooseAgent s with
    | none => .fault .runOver
    | some (who, t) => agentEvent who { t with turn := who }

/-- The state in which the very next event writes the word of `nbits` bits and value `w` to the port of its OPC. -/
def State.withFetchWord (s : State) (nbits w : Nat) : State :=
  issueNext (portOfOpc (opcField (tableWord nbits w))) (tableWord nbits w) s

end Sys2Proof.Machine
end

