-- ==== Sys2Proof/Machine/Programs.lean ====
section
/-! DEFINITION. Launches and the notation of programs (R90, R91, R149): an agent's program as a list of bus operations,
the pseudo-instructions as the lists they expand to, and the end of a run. -/

namespace Sys2Proof.Machine

/-- `WR <addr>, <value>` (R90). -/
def wr (a : Nat) (v : Word) : AgentOp := .write (BitVec.ofNat 18 a) 4 v

/-- `RD <addr>` (R90). -/
def rd (a : Nat) : AgentOp := .read (BitVec.ofNat 18 a) 4

/-- `<MNEMONIC>`, and `PUSH ch=<n>` and `SRST`: the command's word written to its port (R90). -/
def issue (i : Instr) : AgentOp := wr i.port.addr (encode i)

/-- `SAMPLE v` (R90). -/
def sample (v : Word) : AgentOp := wr 0x018 v

/-- `FRAME v0, …, v127` (R91): the samples, then `PUSH ch=1`. -/
def frame (vs : List Word) : List AgentOp := vs.map sample ++ [issue (.push 1)]

/-- `FRAMEC c` (R91). -/
def frameC (c : Word) : List AgentOp := frame (List.replicate 128 c)

/-- `FRAMES n, c` (R91). -/
def frames (n : Nat) (c : Word) : List AgentOp := (List.replicate n (frameC c)).flatten

/-- `CFG <NAME>, <v>` (R91). -/
def cfgWrite (c : CfgReg) (v : Word) : AgentOp := wr c.addr v

/-- `POLL <reg>, <mask>, <val>` (R91). -/
def pollFor (a : Nat) (mask val : Word) : AgentOp := .poll (BitVec.ofNat 18 a) mask val

/-- `WAITIDLE` (R91). -/
def waitIdle : AgentOp := pollFor 0x00C 0x4 0x0

/-- `WR ARR[i], <value>` (R90). -/
def wrElem (g : Region) (i : Nat) (v : Word) : AgentOp := wr (g.addr i) v

/-- A launch from a stated start state: one finite program per agent, the schedule as far as it is laid down, and the
launch's marks clear (R149, R150). -/
def State.launchFrom (start : State) (host producer reader : List AgentOp) (sched : List Agent) : State :=
  { start with
    hostProg := host
    producerProg := producer
    readerProg := reader
    sched := sched
    faultsSeen := 0
    refusedMark := false }

/-- A launch from power-on reset (R149). -/
def State.launch (host producer reader : List AgentOp) (sched : List Agent) : State :=
  State.reset.launchFrom host producer reader sched

/-- Every agent's program is exhausted. -/
def State.exhausted (s : State) : Bool :=
  s.hostProg.isEmpty && s.producerProg.isEmpty && s.readerProg.isEmpty

/-- The run is over (R149). -/
def State.isOver (s : State) : Bool := s.exhausted && !s.sequencerReady && !s.cwait

/-- The commands that can lift SNAPSHOT's wait in RUNNING: a PUSH, well-formed or not, STOP and SRST (R96, R129, R131). -/
def liftsWait : Instr → Bool
  | .push _ | .stop | .srst _ => true
  | .nop | .snapshot | .transient | .window | .zeropad | .fft | .mag | .whiten | .solve | .publish | .step
  | .start | .clrfault => false

/-- An operation of an agent's program can lift SNAPSHOT's wait, whichever agent sends it (R141). -/
def AgentOp.liftsWait : AgentOp → Bool
  | .read _ _ => false
  | .poll _ _ _ => false
  | .write a size v =>
    wellFormedAccess a size &&
      match regAt a.toNat with
      | some (.port p) =>
        match decode p v with
        | .ok i => Machine.liftsWait i
        | .error _ => false
      | _ => false

/-- No agent has an operation left that can lift SNAPSHOT's wait. -/
def State.noLifterLeft (s : State) : Bool :=
  [Agent.producer, .host, .reader].all fun who => !(s.prog who).any AgentOp.liftsWait

/-- The run is stuck (R149, U12): the sequencer is held in SNAPSHOT's wait, and no agent has an operation left that could
lift it, or none gets as far as one. -/
def State.isStuck (s : State) : Bool := s.held && (s.noLifterLeft || s.stalled)

end Sys2Proof.Machine
end

