-- ==== Sys2Proof/Safety.lean ====
section
/-! DEFINITION. What a safe state is: the invariants the spec states of every reachable state (R27, R30, R53, R65, R66,
R130, R151) and the canonical form of the memories; the groups of registers that frames are stated in; runs. -/

namespace Sys2Proof

/-- The stages of a consumer command (R66, R121). NOP has none. -/
def Instr.stages : Instr → List Machine.Stage
  | .snapshot => [.snapshot]
  | .transient => [.transient]
  | .window => [.window]
  | .zeropad => [.zeropad]
  | .fft => [.fft]
  | .mag => [.mag]
  | .whiten => [.whiten]
  | .solve => [.solve]
  | .publish => [.publish]
  | .step => [.snapshot, .transient, .window, .zeropad, .fft, .mag, .whiten, .solve, .publish]
  | .push _ | .nop | .start | .stop | .clrfault | .srst _ => []

/-- A consumer command that runs as sequencer events (R119): every CCMD command but NOP. -/
def Instr.staged (i : Instr) : Bool := !i.stages.isEmpty

end Sys2Proof

namespace Sys2Proof.Machine

/-- The cursor invariant (R27). -/
structure CursorInv (s : State) : Prop where
  lag_multiple : s.lagSamples % Config.step = 0
  lag_bounded : s.lagSamples ≤ Config.cap

/-- The session invariants (R65, R66, R130). -/
structure SessionInv (s : State) : Prop where
  idle_free : s.mode = .idle → s.cbusy = false
  stopping_busy : s.mode = .stopping → s.cbusy = true
  wait_iff : s.cwait = true ↔ s.cbusy = true ∧ s.cstage = .snapshot
  free : s.cbusy = false → s.cstage = .none ∧ s.curcmd = 0
  busy : s.cbusy = true → ∃ i, i.staged = true ∧ s.curcmd = encode i ∧ s.cstage ∈ i.stages

/-- The memories are in canonical form, STG below its 512 bytes and the arrays inside the window (log 17). -/
structure MemoryInv (s : State) : Prop where
  mem_wf : s.mem.wf
  stg_wf : s.stg.wf
  mem_window : ∀ c ∈ s.mem.cells, 0x10000 ≤ c.1 ∧ c.1 < 0x40000
  stg_window : ∀ c ∈ s.stg.cells, c.1 < 4 * Config.step

/-- The candidate lists have 16 records and W_NC and RES_NCAND count within them (R52, R53, R55). -/
structure CandidateInv (s : State) : Prop where
  wc_length : s.wc.length = 16
  cand_length : s.cand.length = 16
  nc_bounded : s.wNc.toNat ≤ 16
  ncand_bounded : s.bank.ncand.toNat ≤ 16

/-- Outside IDLE the CFG registers are legal and are what is latched (R67, R151). -/
structure ConfigInv (s : State) : Prop where
  legal : s.mode ≠ .idle → firstIllegal s.cfg = none
  latched : s.mode ≠ .idle → s.lat = latch s.cfg

/-- Every recorded fault class is in the launch's mark, and FCAUSE is 0 or a code whose bit is set (R30, R31, R132,
R133, R150). -/
structure FaultInv (s : State) : Prop where
  seen : s.fault &&& s.faultsSeen = s.fault
  cause : s.fcause = 0 ∨ ∃ c : FaultCode, s.fcause = c.code ∧ s.fault &&& c.mask = c.mask

/-- Registers that no consumer command writes. -/
structure SameControl (s t : State) : Prop where
  auto : t.auto = s.auto
  w : t.w = s.w
  ovrcnt : t.ovrcnt = s.ovrcnt
  igncnt : t.igncnt = s.igncnt
  irqEn : t.irqEn = s.irqEn
  cfg : t.cfg = s.cfg
  lat : t.lat = s.lat
  stg : t.stg = s.stg
  stgCnt : t.stgCnt = s.stgCnt

/-- The registers SNAPSHOT writes. -/
structure SameWindowRegs (s t : State) : Prop where
  r : t.r = s.r
  wend : t.wend = s.wend
  lag : t.lag = s.lag

/-- The registers TRANSIENT writes. -/
structure SameTransientRegs (s t : State) : Prop where
  prevRms : t.prevRms = s.prevRms
  tRms : t.tRms = s.tRms
  tFlux : t.tFlux = s.tFlux
  tdet : t.tFlags.tdet = s.tFlags.tdet

/-- The registers WHITEN writes. -/
structure SameWhitenRegs (s t : State) : Prop where
  wfloor : t.wfloor = s.wfloor
  wfirst : t.wfirst = s.wfirst
  wDombin : t.wDombin = s.wDombin
  wDomf : t.wDomf = s.wDomf

/-- The registers SOLVE writes. -/
structure SameSolveRegs (s t : State) : Prop where
  wNc : t.wNc = s.wNc
  wc : t.wc = s.wc
  gated : t.tFlags.gated = s.tFlags.gated
  capped : t.tFlags.capped = s.tFlags.capped

/-- The result bank and the candidate slots, which PUBLISH writes. -/
structure SameResults (s t : State) : Prop where
  bank : t.bank = s.bank
  cand : t.cand = s.cand

/-- The fault record and the launch's marks. -/
structure SameRecord (s t : State) : Prop where
  fault : t.fault = s.fault
  fcause : t.fcause = s.fcause
  finfo : t.finfo = s.finfo
  faultsSeen : t.faultsSeen = s.faultsSeen
  refusedMark : t.refusedMark = s.refusedMark

/-- The sequencer's registers. -/
structure SameSequencer (s t : State) : Prop where
  cbusy : t.cbusy = s.cbusy
  cwait : t.cwait = s.cwait
  cstage : t.cstage = s.cstage
  curcmd : t.curcmd = s.curcmd

/-- The datapath of a session: everything the consumer commands write but the memory. -/
structure SameDatapath (s t : State) : Prop where
  window : SameWindowRegs s t
  transient : SameTransientRegs s t
  whiten : SameWhitenRegs s t
  solve : SameSolveRegs s t
  results : SameResults s t

/-- The model's own fields: programs, schedule and the bus's last answer. -/
structure SameLaunch (s t : State) : Prop where
  resets : t.resets = s.resets
  turns : t.turns = s.turns
  waitFrom : t.waitFrom = s.waitFrom
  sched : t.sched = s.sched
  turn : t.turn = s.turn
  hostProg : t.hostProg = s.hostProg
  producerProg : t.producerProg = s.producerProg
  readerProg : t.readerProg = s.readerProg
  busData : t.busData = s.busData
  busError : t.busError = s.busError

/-- Every byte of the arrays reads as before, but the `n` words from element `i` of an array on. -/
def SameBytesOutside (s t : State) (g : Region) (i n : Nat) : Prop :=
  ∀ a, a < g.addr i ∨ g.addr i + 4 * n ≤ a → t.mem.readByte a = s.mem.readByte a

/-- Every byte of the arrays reads as before. -/
def SameBytes (s t : State) : Prop := ∀ a, t.mem.readByte a = s.mem.readByte a

/-- One event leads from one state to another. -/
def StepsTo (s t : State) : Prop := step s = .next t

/-- A run of any length. -/
inductive Reaches : State → State → Prop where
  | refl (s : State) : Reaches s s
  | tail {s t u : State} : Reaches s t → StepsTo t u → Reaches s u

/-- A state a launch from reset can reach (R149). -/
def Reachable (s : State) : Prop :=
  ∃ host producer reader sched, Reaches (State.launch host producer reader sched) s

/-- "No fault" is a claim about the launch's marks, not about FAULT at the end (R150). -/
def CleanLaunch (s : State) : Prop := s.faultsSeen = 0 ∧ s.refusedMark = false

/-- What `finish()` leaves after an event that also pends the bits `extra` (R119). -/
structure Finished (extra : BitVec 6) (s t : State) : Prop where
  cbusy : t.cbusy = false
  cwait : t.cwait = false
  cstage : t.cstage = .none
  curcmd : t.curcmd = 0
  mode : t.mode = if s.mode = .stopping then .idle else s.mode
  irqPend : t.irqPend = s.irqPend ||| extra ||| (if s.mode = .stopping then 0b100000 else 0)

/-- What no sequencer event writes: the control registers, the fault record and the launch. -/
structure SameAround (s t : State) : Prop where
  control : SameControl s t
  record : SameRecord s t
  launch : SameLaunch s t

/-- Access rights of a location (10_state.md, access codes). -/
inductive Rights where
  | ro
  | rw
  | wo
  | rw1c
  | rwi
  | rwa
  deriving DecidableEq, Repr

/-- The rows of R69: first byte address, the address after the last byte, and the rights. -/
def mapRows (l : Latched) : List (Nat × Nat × Rights) :=
  [ (0x00000, 0x00008, .ro), (0x00008, 0x0000C, .rw), (0x0000C, 0x00010, .ro), (0x00010, 0x00020, .wo),
    (0x00020, 0x0003C, .ro), (0x0003C, 0x00040, .rw), (0x00040, 0x00044, .rw1c), (0x00080, 0x000C0, .rwi),
    (0x000C0, 0x000EC, .ro), (0x00100, 0x00128, .ro), (0x00140, 0x00240, .ro),
    (0x10000, 0x10000 + 4 * 2048, .ro), (0x14000, 0x14000 + 4 * 2048, .rwa),
    (0x18000, 0x18000 + 4 * l.nfftN, .rwa), (0x1C000, 0x1C000 + 4 * l.bins, .rwa),
    (0x20000, 0x20000 + 4 * l.bins, .rwa), (0x24000, 0x24000 + 4 * l.bins, .rwa),
    (0x28000, 0x28000 + 4 * l.bins, .rwa), (0x2C000, 0x2C000 + 4 * l.bins, .ro),
    (0x30000, 0x30000 + 4 * l.alenN, .ro) ]

/-- The rights at a byte address; none where it is unassigned (R69). -/
def rightsAt (l : Latched) (a : Nat) : Option Rights :=
  ((mapRows l).find? fun row => decide (row.1 ≤ a ∧ a < row.2.1)).map fun row => row.2.2

/-- A read is refused (R71, R72 a and b). -/
abbrev ReadRefused (s : State) (a : Addr) (size : Nat) : Prop :=
  size ≠ 4 ∨ a.toNat % 4 ≠ 0 ∨ rightsAt s.lat a.toNat = none

/-- A write is refused (R71, R72 a to e, R73). -/
abbrev WriteRefused (s : State) (a : Addr) (size : Nat) : Prop :=
  ReadRefused s a size ∨ rightsAt s.lat a.toNat = some .ro ∨
    (rightsAt s.lat a.toNat = some .rwi ∧ s.mode ≠ .idle) ∨
    (rightsAt s.lat a.toNat = some .rwa ∧ ¬((s.mode = .idle ∨ s.mode = .running) ∧ s.cbusy = false))

/-- The exponent field is not 0xFF (R125). -/
abbrev FiniteField (v : Word) : Prop := v.extractLsb' 23 8 ≠ 0xFF

/-- The legal values of a configuration register, as the table of R125 lists them. -/
def LegalValue : CfgReg → Word → Prop
  | .fs, v => v.toNat = 48000
  | .frame, v => v.toNat = 128
  | .winlen, v => v.toNat = 2048
  | .alen, v => v.toNat = 512 ∨ v.toNat = 1024 ∨ v.toNat = 2048
  | .nfft, v => v.toNat = 2048 ∨ v.toNat = 4096
  | .wkind, v => v.toNat = 0 ∨ v.toNat = 1
  | .nfloor, v => FiniteField v ∧ flt v 0 = false
  | .htol, v => FiniteField v ∧ flt v 0 = false
  | .hunit, v => v.toNat = 0 ∨ v.toNat = 1
  | .maxn, v => 1 ≤ v.toNat ∧ v.toNat ≤ 16
  | .debounce, _ => True
  | .tthr, v => FiniteField v
  | .walpha, v => FiniteField v ∧ fgt v 0 = true ∧ fgt v 0x3F800000 = false
  | .weps, v => FiniteField v ∧ fgt v 0 = true
  | .hsub, v => FiniteField v ∧ flt v 0 = false
  | .silence, v => FiniteField v ∧ flt v 0 = false

/-- `w` is `RNE32 r` up to the sign of a zero (R15): nearest of the finite patterns, the even one of two equally near;
from half a unit past the largest finite value on, the infinity of the sign of `r`. -/
def IsRNE32 (r : ℝ) (w : Word) : Prop :=
  (|r| < (2 ^ 128 : ℝ) - 2 ^ 103 →
    isFinite w = true ∧
      ∀ u, isFinite u = true →
        |(fval w : ℝ) / 2 ^ 149 - r| ≤ |(fval u : ℝ) / 2 ^ 149 - r| ∧
          (fval u ≠ fval w → |(fval w : ℝ) / 2 ^ 149 - r| = |(fval u : ℝ) / 2 ^ 149 - r| → fbits w % 2 = 0)) ∧
  ((2 ^ 128 : ℝ) - 2 ^ 103 ≤ |r| → w = fpack (decide (r < 0)) infBits)

/-- `k` is what the ascending strict scan of R106 and R111 leaves: bin 1 if that is a NaN, else the lowest of the
largest numbers of bins 1 … B-1. -/
structure IsPeak (v : Nat → Word) (bins k : Nat) : Prop where
  range : 1 ≤ k ∧ k < bins
  nan_first : isNaN (v 1) = true → k = 1
  number : isNaN (v 1) = false → isNaN (v k) = false
  largest : isNaN (v 1) = false → ∀ j, 1 ≤ j → j < bins → fgt (v j) (v k) = false
  lowest : isNaN (v 1) = false → ∀ j, 1 ≤ j → j < k → isNaN (v j) = true ∨ fgt (v k) (v j) = true

/-- `ys` is `xs` with `f` applied to the bins of the window about target bin `t` and to no other (R112). -/
structure NearUpdated (l : Latched) (t : Nat) (f : Word → Word) (xs ys : List Word) : Prop where
  length : ys.length = xs.length
  bins : ∀ b, b < xs.length → ys.getD b 0 = if b ∈ near l t then f (xs.getD b 0) else xs.getD b 0

/-- Steps 4 and 5 of R115 from harmonic `h` on. -/
inductive HarmonicsSubtracted (l : Latched) (k : Nat) (a : Word) : Nat → List Word → List Word → Prop where
  | beyond {h : Nat} {xs : List Word} : l.bins - 1 < h * k → HarmonicsSubtracted l k a h xs xs
  | harmonic {h : Nat} {xs ys zs : List Word} : h * k ≤ l.bins - 1 →
      NearUpdated l (h * k) (fun v => fmax0 (fsub v (fmul l.hsub a))) xs ys →
      HarmonicsSubtracted l k a (h + 1) ys zs → HarmonicsSubtracted l k a h xs zs

/-- The skip test as R113 writes it. -/
def Skips (l : Latched) (emitted : List Cand) (k : Nat) : Prop :=
  ∃ c ∈ emitted, ∃ h, 2 ≤ h ∧ h * c.bin.toNat ≤ l.bins - 1 ∧ k ∈ near l (h * c.bin.toNat)

/-- The loop of R115 as a relation: after `iter` passes, with scratch `scr` and the candidates emitted so far. -/
inductive SolverRun (l : Latched) : Nat → List Word → List Cand → Solved → Prop where
  | cap {iter : Nat} {scr : List Word} {cs : List Cand} : l.maxn.val ≤ iter → SolverRun l iter scr cs ⟨scr, cs, true⟩
  | noiseFloor {iter k : Nat} {scr : List Word} {cs : List Cand} : iter < l.maxn.val →
      IsPeak (fun j => scr.getD j 0) l.bins k → fgt (scr.getD k 0) l.nfloor = false →
      SolverRun l iter scr cs ⟨scr, cs, false⟩
  | skip {iter k : Nat} {scr scr' : List Word} {cs : List Cand} {r : Solved} : iter < l.maxn.val →
      IsPeak (fun j => scr.getD j 0) l.bins k → fgt (scr.getD k 0) l.nfloor = true → Skips l cs k →
      NearUpdated l k (fun _ => 0) scr scr' → SolverRun l (iter + 1) scr' cs r → SolverRun l iter scr cs r
  | emit {iter k : Nat} {scr scr' scr'' : List Word} {cs : List Cand} {r : Solved} : iter < l.maxn.val →
      IsPeak (fun j => scr.getD j 0) l.bins k → fgt (scr.getD k 0) l.nfloor = true → ¬ Skips l cs k →
      NearUpdated l k (fun _ => 0) scr scr' → HarmonicsSubtracted l k (scr.getD k 0) 2 scr' scr'' →
      SolverRun l (iter + 1) scr''
        (cs ++ [⟨BitVec.ofNat 32 (midi l k), BitVec.ofNat 32 k, fmul (f32 k) l.delta, scr.getD k 0⟩]) r →
      SolverRun l iter scr cs r

/-- The next event is the arrival of command `i` at its port, whichever agent sends it (R141). -/
def State.arrives (s : State) (i : Instr) : Prop :=
  ∃ who t rest, chooseAgent s = some (who, t) ∧ who ≠ .sequencer ∧
    s.prog who = .write (BitVec.ofNat 18 i.port.addr) 4 (encode i) :: rest

/-- The next event is the sequencer's. -/
def State.sequencerMoves (s : State) : Prop := ∃ t, chooseAgent s = some (.sequencer, t)

/-- A run of `n` events in which the sequencer has an enabled event throughout and performs none (R17). -/
inductive PassedOver : Nat → State → State → Prop where
  | refl (s : State) : PassedOver 0 s s
  | tail {n : Nat} {s t u : State} : PassedOver n s t → t.enabled .sequencer = true → ¬ t.sequencerMoves →
      StepsTo t u → PassedOver (n + 1) s u

/-- The samples a session has committed, oldest first (R97): none at its START, and 128 more at each event of the
session that advances W. -/
inductive SessionHistory : List Word → State → Prop where
  | started {s t : State} : StepsTo s t → s.mode = .idle → t.mode = .running → SessionHistory [] t
  | committed {xs : List Word} {s t : State} : SessionHistory xs s → StepsTo s t → s.mode = .running →
      t.mode = .running → t.w = s.w + 128 → SessionHistory (xs ++ s.stagedFrame) t
  | other {xs : List Word} {s t : State} : SessionHistory xs s → StepsTo s t → s.mode ≠ .idle →
      t.mode ≠ .idle → t.w = s.w → SessionHistory xs t

/-- A run of `n` events inside one session. -/
inductive SessionRun : Nat → State → State → Prop where
  | refl (s : State) : SessionRun 0 s s
  | tail {n : Nat} {s t u : State} : SessionRun n s t → StepsTo t u → t.mode ≠ .idle → u.mode ≠ .idle →
      SessionRun (n + 1) s u

/-- A command repeated for its sequencer events, stopping where one does not answer a next state. -/
def execTimes (i : Instr) : Nat → State → Host.Outcome State Fault Refusal
  | 0, s => .next s
  | n + 1, s =>
    match exec i s with
    | .next t => execTimes i n t
    | .fault f => .fault f
    | .refused r => .refused r

end Sys2Proof.Machine
end

