-- ==== Sys2Proof/Certificates/Slice0/Obligations.lean ====
section
/-! DEFINITION. The statements for the provers, from the numbered rules of spec/. Each docstring names the rule. -/

open Sys2Proof Sys2Proof.Machine

/-! ### Encoding -/

/-- Every well-formed command's word decodes to it at its own port and in the table's numbering, and is ILLEGAL at every
other port (R85 to R89). -/
def Obligations.EncodingsRoundTrip : Prop :=
  ∀ i : Instr, i.WellFormed →
    decode i.port (encode i) = .ok i ∧
    decodeTableWord 32 (encode i).toNat = some i ∧
    ∀ p, p ≠ i.port → ∃ e, decode p (encode i) = .error e

/-- R88: PUSH has 256 legal words, each other mnemonic exactly one, every other word is ILLEGAL. -/
def Obligations.LegalWordsAreExactlyTheTable : Prop :=
  ∀ (p : Port) (w : Word) (i : Instr), decode p w = .ok i ↔
    (∃ ch : BitVec 8, i = .push ch ∧ p = .pcmd ∧ w.toNat = 256 * ch.toNat + 0x01) ∨
    (p = .ccmd ∧ (i, w) ∈ ([(.nop, 0x10), (.snapshot, 0x11), (.transient, 0x20), (.window, 0x30),
      (.zeropad, 0x31), (.fft, 0x32), (.mag, 0x33), (.whiten, 0x34), (.solve, 0x40), (.publish, 0x50),
      (.step, 0x60)] : List (Instr × Word))) ∨
    (p = .hcmd ∧ (i, w) ∈ ([(.start, 0x80), (.stop, 0x81), (.clrfault, 0x82), (.srst 0xA5, 0xA583)] :
      List (Instr × Word)))

/-- Words written out from the encoding table of R87, and ILLEGAL ones (vectors C1 to C15). -/
def Obligations.SampleWordsDecodeRight : Prop :=
  decode .pcmd 0x00000101 = .ok (.push 1) ∧ decode .pcmd 0x0000FF01 = .ok (.push 255) ∧
  decode .ccmd 0x00000010 = .ok .nop ∧ decode .ccmd 0x00000011 = .ok .snapshot ∧
  decode .ccmd 0x00000020 = .ok .transient ∧ decode .ccmd 0x00000030 = .ok .window ∧
  decode .ccmd 0x00000031 = .ok .zeropad ∧ decode .ccmd 0x00000032 = .ok .fft ∧
  decode .ccmd 0x00000033 = .ok .mag ∧ decode .ccmd 0x00000034 = .ok .whiten ∧
  decode .ccmd 0x00000040 = .ok .solve ∧ decode .ccmd 0x00000050 = .ok .publish ∧
  decode .ccmd 0x00000060 = .ok .step ∧ decode .hcmd 0x00000080 = .ok .start ∧
  decode .hcmd 0x00000081 = .ok .stop ∧ decode .hcmd 0x00000082 = .ok .clrfault ∧
  decode .hcmd 0x0000A583 = .ok (.srst 0xA5) ∧
  decode .pcmd 0x00010101 = .error .reservedBits ∧ decode .pcmd 0x00000011 = .error .noSuchOpcode ∧
  decode .ccmd 0x00000111 = .error .strayArgument ∧ decode .ccmd 0x00000080 = .error .noSuchOpcode ∧
  decode .hcmd 0x0000A483 = .error .wrongKey

/-- R89: an ILLEGAL word written to a port is recorded as Fault(4, w) and has no other effect; a word whose OPC is no row of
its port, a reserved value or another port's, is ILLEGAL. -/
def Obligations.IllegalWordIsOnlyRecorded : Prop :=
  (∀ (p : Port) (w : Word), (∀ i : Instr, i.port = p → i.opc ≠ opcField w) → ∀ i, decode p w ≠ .ok i) ∧
  ∀ (p : Port) (w : Word) (s : State), (∀ i, decode p w ≠ .ok i) →
    ∃ t, busWrite (BitVec.ofNat 18 p.addr) 4 w s = .next t ∧
      t = { s with
        fault := s.fault ||| 0b0001000
        fcause := 4
        finfo := w
        irqPend := s.irqPend ||| 0b010000
        faultsSeen := s.faultsSeen ||| 0b0001000
        busData := t.busData
        busError := t.busError }

/-! ### A step -/

/-- A step of a bus agent whose next operation writes a legal word to a port is `exec` of the command it decodes to, with
the operation used up and the bus answered; a step of the busy sequencer is `exec` of the command in curcmd (R14, R65,
R77, R119), whichever agent sends the word (R141). That the bus answers a write with data 0 and no error is the model's
choice (log 8), and so is the launch's mark on a word that another agent than the Producer sends to PCMD (log 7). -/
def Obligations.StepRunsTheDecodedCommand : Prop :=
  (∀ (s u : State) (who : Agent) (p : Port) (w : Word) (i : Instr) (rest : List AgentOp),
    chooseAgent s = some (who, u) → who ≠ .sequencer →
    s.prog who = .write (BitVec.ofNat 18 p.addr) 4 w :: rest → decode p w = .ok i →
    step s = exec i { ({ u with turn := who }.setProg who rest) with
      refusedMark := s.refusedMark || decide (p = .pcmd ∧ who ≠ .producer)
      busData := 0
      busError := false }) ∧
  (∀ (s u : State) (i : Instr),
    chooseAgent s = some (.sequencer, u) → s.cbusy = true → decode .ccmd s.curcmd = .ok i → i ≠ .nop →
    step s = exec i { u with turn := .sequencer })

/-- `withFetchWord` makes the next step run the word's command: its agent's turn, the bus answered, nothing else changed.
The placement of the word is the model's choice (log 6), and so is the bus's answer to a write, data 0 and no error
(log 8). -/
def Obligations.FetchWordRunsNext : Prop :=
  ∀ (s : State) (nbits w : Nat) (i : Instr), decodeTableWord nbits w = some i →
    step (s.withFetchWord nbits w) = exec i { s with turn := portAgent i.port, busData := 0, busError := false }

/-- While some agent has an enabled event the block answers a next state, unless the run is stuck: the sequencer is held in
SNAPSHOT's wait and every program is exhausted or stands at a POLL whose reads neither meet its condition nor change the
block. With no enabled event the run is over, or stuck in the wait (R91, R119, R132, R149). What counts as stuck beside a
POLL, and that a step then stops with the fault `stuck` or `runOver`, are the model's choice (log 10). -/
def Obligations.BlockAlwaysProceeds : Prop :=
  (∀ s : State, SessionInv s →
    (s.stalled = false → (∃ who, s.enabled who = true) → ∃ t, step s = .next t) ∧
    (s.stalled = true → step s = .fault .stuck) ∧
    ((∀ who, s.enabled who = false) → step s = .fault (if s.cwait then .stuck else .runOver))) ∧
  ∀ s : State, s.stalled = true ↔
    s.cwait = true ∧ s.enabled .sequencer = false ∧
      ∀ who : Agent, s.prog who = [] ∨ ∃ a mask val rest, s.prog who = .poll a mask val :: rest ∧
        (busRead a 4 s).busData &&& mask ≠ val ∧
        ∃ data error, busRead a 4 s = { s with busData := data, busError := error }

/-! ### Reset -/

/-- The reset value of every register, read at its address (R20 to R55, R147). -/
def Obligations.ResetReadsTheTable : Prop :=
  (∀ e ∈ ([(0x000, 0x41534646), (0x004, 0x00010007), (0x008, 0), (0x00C, 0), (0x020, 0), (0x024, 0), (0x028, 0),
      (0x02C, 0), (0x030, 0), (0x034, 0), (0x038, 0), (0x03C, 0), (0x040, 0), (0x080, 48000), (0x084, 128),
      (0x088, 2048), (0x08C, 2048), (0x090, 4096), (0x094, 0), (0x098, 0x40000000), (0x09C, 0x40C00000), (0x0A0, 0),
      (0x0A4, 6), (0x0A8, 2), (0x0AC, 0x3D800000), (0x0B0, 0x3D800000), (0x0B4, 0x35800000), (0x0B8, 0x3F800000),
      (0x0BC, 0x39000000), (0x0C0, 0), (0x0C4, 0), (0x0C8, 1), (0x0CC, 0), (0x0D0, 0), (0x0D4, 0), (0x0D8, 0),
      (0x0DC, 0), (0x0E0, 0), (0x0E4, 0), (0x0E8, 0), (0x100, 0), (0x104, 0), (0x108, 0), (0x10C, 0), (0x110, 0),
      (0x114, 0), (0x118, 0), (0x11C, 0), (0x120, 0), (0x124, 0)] : List (Addr × Word)),
    State.reset.readLocation e.1 = some e.2) ∧
  (∀ i, i < 64 → State.reset.readLocation (BitVec.ofNat 18 (0x140 + 4 * i)) = some 0) ∧
  State.reset.lat.nfftN = 4096 ∧ State.reset.lat.bins = 2049 ∧ State.reset.lat.alenN = 2048 ∧
  State.reset.curcmd = 0 ∧ State.reset.wc = List.replicate 16 Cand.zero

/-- R129: SRST is accepted in every state, gives every register its reset value and abandons the running command with no
interrupt; any other key is ILLEGAL. -/
def Obligations.SrstResetsTheBlock : Prop :=
  (∀ s : State, ∃ t, exec (.srst 0xA5) s = .next t ∧
    (∀ r : Reg, t.readReg r = State.reset.readReg r) ∧
    t.lat = State.reset.lat ∧ t.curcmd = 0 ∧ t.cbusy = false ∧ t.cwait = false ∧ t.cstage = .none ∧
    t.mode = .idle ∧ t.irqPend = 0 ∧ t.stgCnt = 0 ∧ t.wc = State.reset.wc) ∧
  (∀ key : BitVec 8, key ≠ 0xA5 → decode .hcmd (cmdWord key 0x83) = .error .wrongKey)

/-! ### The bus -/

/-- R71, R72: a refused access has no effect but the fault record; a read returns 0 and the bus answers with an error. That
an accepted write is answered without an error is the model's choice (log 8). -/
def Obligations.RefusedAccessesAreOnlyRecorded : Prop :=
  ∀ (s : State) (a : Addr) (size : Nat) (v : Word),
    let refused := fun data : Word => { s with
        fault := s.fault ||| 0b0100000
        fcause := 6
        finfo := a.zeroExtend 32
        irqPend := s.irqPend ||| 0b010000
        faultsSeen := s.faultsSeen ||| 0b0100000
        busData := data
        busError := true }
    (ReadRefused s a size → busRead a size s = refused 0) ∧
    (¬ ReadRefused s a size → (busRead a size s).busError = false ∧ (busRead a size s).fault = s.fault ∧
      (rightsAt s.lat a.toNat = some .wo → (busRead a size s).busData = 0)) ∧
    (WriteRefused s a size → ∃ data, busWrite a size v s = .next (refused data)) ∧
    (¬ WriteRefused s a size → rightsAt s.lat a.toNat ≠ some .wo →
      ∃ t, busWrite a size v s = .next t ∧ t.busError = false ∧ t.fault = s.fault)

/-- R74, R75, R69: a read answers the location's value, changes nothing else, and is idempotent; and what each address of
the map shows. -/
def Obligations.ReadsHaveNoSideEffects : Prop :=
  (∀ (s : State) (a : Addr), ¬ ReadRefused s a 4 →
    (∃ v, busRead a 4 s = { s with busData := v, busError := false } ∧
      ((∃ g i, i < Region.bound s.lat g ∧ a.toNat = g.addr i ∧ v = s.elem g i) ∨
        (∃ r, (a.toNat, r) ∈ regMap ∧ v = s.readReg r))) ∧
    busRead a 4 (busRead a 4 s) = busRead a 4 s) ∧
  ∀ s : State,
    let shows := fun (a : Addr) (v : Word) => busRead a 4 s = { s with busData := v, busError := false }
    let flags := fun f : TFlags =>
      (if f.tdet then 1 else 0) + (if f.gated then 2 else 0) + (if f.capped then (4 : Word) else 0)
    (∀ e ∈ ([(0x000, 0x41534646), (0x004, 0x00010007), (0x008, if s.auto then 1 else 0), (0x00C, s.statusWord),
      (0x010, 0), (0x014, 0), (0x018, 0), (0x01C, 0), (0x020, s.w), (0x024, s.r), (0x028, s.ovrcnt), (0x02C, s.igncnt),
      (0x030, s.fault.setWidth 32), (0x034, s.fcause.setWidth 32), (0x038, s.finfo),
      (0x03C, s.irqEn.setWidth 32), (0x040, s.irqPend.setWidth 32)] : List (Addr × Word)), shows e.1 e.2) ∧
    (∀ e ∈ ([(0x080, s.cfg.fs), (0x084, s.cfg.frame), (0x088, s.cfg.winlen), (0x08C, s.cfg.alen), (0x090, s.cfg.nfft),
      (0x094, s.cfg.wkind), (0x098, s.cfg.nfloor), (0x09C, s.cfg.htol), (0x0A0, s.cfg.hunit), (0x0A4, s.cfg.maxn),
      (0x0A8, s.cfg.debounce), (0x0AC, s.cfg.tthr), (0x0B0, s.cfg.walpha), (0x0B4, s.cfg.weps), (0x0B8, s.cfg.hsub),
      (0x0BC, s.cfg.silence)] : List (Addr × Word)), shows e.1 e.2) ∧
    (∀ e ∈ ([(0x0C0, s.prevRms), (0x0C4, s.wfloor), (0x0C8, if s.wfirst then 1 else 0), (0x0CC, s.wend), (0x0D0, s.lag),
      (0x0D4, s.tRms), (0x0D8, s.tFlux), (0x0DC, flags s.tFlags), (0x0E0, s.wNc), (0x0E4, s.wDombin),
      (0x0E8, s.wDomf)] : List (Addr × Word)), shows e.1 e.2) ∧
    (∀ e ∈ ([(0x100, s.bank.seq), (0x104, s.bank.wend), (0x108, s.bank.lag), (0x10C, flags s.bank.flags),
      (0x110, s.bank.rms), (0x114, s.bank.flux), (0x118, s.bank.ncand), (0x11C, s.bank.dombin), (0x120, s.bank.domf),
      (0x124, s.bank.floor)] : List (Addr × Word)), shows e.1 e.2) ∧
    (∀ i, i < 16 →
      let c := s.cand.getD i ⟨0, 0, 0, 0⟩
      shows (BitVec.ofNat 18 (0x140 + 16 * i)) c.note ∧ shows (BitVec.ofNat 18 (0x144 + 16 * i)) c.bin ∧
      shows (BitVec.ofNat 18 (0x148 + 16 * i)) c.freq ∧ shows (BitVec.ofNat 18 (0x14C + 16 * i)) c.mag) ∧
    ∀ (g : Region) (i : Nat), i < Region.bound s.lat g →
      shows (BitVec.ofNat 18 ((match g with
        | .ring => 0x10000 | .win => 0x14000 | .pad => 0x18000 | .xre => 0x1C000 | .xim => 0x20000
        | .mag => 0x24000 | .wht => 0x28000 | .scr => 0x2C000 | .wcoef => 0x30000) + 4 * i)) (s.elem g i)

/-- R73: a bus write to an element of WIN, PAD, XRE, XIM, MAG or WHT stores the pattern unchanged exactly when STATE is
IDLE or RUNNING and CBUSY = 0; otherwise it raises BusError and the element stays. -/
def Obligations.ArrayWritesFollowTheirRule : Prop :=
  ∀ (s : State) (g : Region) (i : Nat) (v : Word),
    g ∈ ([.win, .pad, .xre, .xim, .mag, .wht] : List Region) → i < Region.bound s.lat g →
    ∃ t, busWrite (BitVec.ofNat 18 (g.addr i)) 4 v s = .next t ∧
      ((s.mode = .idle ∨ s.mode = .running) ∧ s.cbusy = false →
        t.elem g i = v ∧ SameBytesOutside s t g i 1 ∧
        t = { s with mem := t.mem, busData := t.busData, busError := t.busError }) ∧
      (¬((s.mode = .idle ∨ s.mode = .running) ∧ s.cbusy = false) →
        SameBytes s t ∧ t.busError = true ∧ t.fcause = 6 ∧ t.finfo.toNat = g.addr i)

/-- R21, R32, R33, R34: what the writable registers store. The bus's answer to a write, data 0 and no error, is the model's
choice (log 8). -/
def Obligations.PlainWritesStoreTheirValue : Prop :=
  ∀ (s : State) (v : Word),
    busWrite 0x008 4 v s = .next { s with auto := v.getLsbD 0, busData := 0, busError := false } ∧
    busWrite 0x03C 4 v s = .next { s with irqEn := v.extractLsb' 0 6, busData := 0, busError := false } ∧
    busWrite 0x040 4 v s =
      .next { s with irqPend := s.irqPend &&& ~~~(v.extractLsb' 0 6), busData := 0, busError := false } ∧
    ∀ c : CfgReg, s.mode = .idle →
      ∃ t, busWrite (BitVec.ofNat 18 c.addr) 4 v s = .next t ∧ t.cfg.get c = v ∧
        (∀ d, d ≠ c → t.cfg.get d = s.cfg.get d) ∧
        t = { s with cfg := t.cfg, busData := 0, busError := false }

/-- R23, with the codes of R22 and R66: the fields of STATUS. AVAIL is stated where the cursor invariant of R27 holds. -/
def Obligations.StatusShowsItsFields : Prop :=
  State.reset.statusWord = 0 ∧
  ∀ s : State, CursorInv s →
    s.readLocation 0x00C = some s.statusWord ∧
    (s.statusWord.extractLsb' 0 2).toNat =
      (match s.mode with | .idle => 0 | .running => 1 | .stopping => 2 | .faulted => 3) ∧
    s.statusWord.getLsbD 2 = s.cbusy ∧ s.statusWord.getLsbD 3 = s.cwait ∧
    (s.statusWord.extractLsb' 4 4).toNat =
      (match s.cstage with
        | .none => 0 | .snapshot => 1 | .transient => 2 | .window => 3 | .zeropad => 4 | .fft => 5 | .mag => 6
        | .whiten => 7 | .solve => 8 | .publish => 9) ∧
    (s.statusWord.extractLsb' 8 5).toNat = (s.w - s.r).toNat / 128 ∧ (s.w - s.r).toNat / 128 ≤ 16 ∧
    s.statusWord.getLsbD 13 = (s.irqEn &&& s.irqPend != 0) ∧
    s.statusWord.extractLsb' 14 2 = 0 ∧ s.statusWord.extractLsb' 16 8 = s.stgCnt ∧
    s.statusWord.extractLsb' 24 8 = 0

/-- R136: the level of the interrupt output, and that no event clears a pending bit but a write to IRQ_PEND or a reset. -/
def Obligations.PendingBitsWaitForTheHost : Prop :=
  (∀ s : State, s.statusWord.getLsbD 13 = s.irq ∧
    (s.irq = true ↔ ∃ b, b < 6 ∧ s.irqEn.getLsbD b = true ∧ s.irqPend.getLsbD b = true)) ∧
  (∀ (s t : State) (b : Nat), step s = .next t → s.irqPend.getLsbD b = true → t.irqPend.getLsbD b = false →
    s.arrives (.srst 0xA5) ∨
    ∃ who u v rest, chooseAgent s = some (who, u) ∧ s.prog who = .write 0x040 4 v :: rest ∧ v.getLsbD b = true)

/-- R132, with the codes of R133: what recording a fault does, for each cause. -/
def Obligations.FaultRecordFollowsItsRule : Prop :=
  ∀ (c : FaultCode) (info : Word) (s : State),
    let t := raiseFault c info s
    c.code.toNat = (match c with
      | .malLen => 1 | .malCh => 2 | .config => 3 | .illegal => 4 | .busy => 5 | .buserr => 6 | .notallowed => 7) ∧
    (∀ b, b < 7 → t.fault.getLsbD b = (s.fault.getLsbD b || decide (b + 1 = c.code.toNat))) ∧
    t.fcause = c.code ∧ t.finfo = info ∧
    (∀ b, b < 6 → t.irqPend.getLsbD b =
      (s.irqPend.getLsbD b || decide (b = if c.code.toNat = 1 ∨ c.code.toNat = 2 then 3 else 4))) ∧
    (∀ b, b < 7 → t.faultsSeen.getLsbD b = (s.faultsSeen.getLsbD b || decide (b + 1 = c.code.toNat))) ∧
    t = { s with fault := t.fault, fcause := t.fcause, finfo := t.finfo, irqPend := t.irqPend, faultsSeen := t.faultsSeen }

/-! ### The ring buffer -/

/-- R92: a PDATA write stages one sample, in every STATE. -/
def Obligations.PdataStagesASample : Prop :=
  ∀ (s : State) (v : Word), ∃ t, busWrite 0x018 4 v s = .next t ∧
    t.stgCnt.toNat = min (s.stgCnt.toNat + 1) 255 ∧
    (s.stgCnt.toNat < 128 → t.stg.readWord (4 * s.stgCnt.toNat) = v) ∧
    (∀ a, (s.stgCnt.toNat < 128 → a < 4 * s.stgCnt.toNat ∨ 4 * s.stgCnt.toNat + 4 ≤ a) →
      t.stg.readByte a = s.stg.readByte a) ∧
    t = { s with stg := t.stg, stgCnt := t.stgCnt, busData := t.busData, busError := t.busError }

/-- R93, R94: PUSH. -/
def Obligations.PushFollowsItsRule : Prop :=
  ∀ (ch : BitVec 8) (s : State),
    (s.mode ≠ .running → ∃ t, exec (.push ch) s = .next t ∧
      t.igncnt.toNat = min (s.igncnt.toNat + 1) (2 ^ 32 - 1) ∧ t = { s with igncnt := t.igncnt, stgCnt := 0 }) ∧
    (s.mode = .running → ch ≠ 1 →
      exec (.push ch) s = .next (raiseFault .malCh (ch.zeroExtend 32) { s with stgCnt := 0, mode := .faulted })) ∧
    (s.mode = .running → ch = 1 → s.stgCnt.toNat ≠ 128 →
      exec (.push ch) s =
        .next (raiseFault .malLen (s.stgCnt.zeroExtend 32) { s with stgCnt := 0, mode := .faulted })) ∧
    (s.mode = .running → ch = 1 → s.stgCnt.toNat = 128 → ∃ t, exec (.push ch) s = .next t ∧
      t.w = s.w + 128 ∧ t.stgCnt = 0 ∧
      (∀ i, i < 128 → t.elem .ring ((s.w.toNat + i) % 2048) = s.stg.readWord (4 * i)) ∧
      (∀ a, (∀ i, i < 128 → a < Region.addr .ring ((s.w.toNat + i) % 2048) ∨
        Region.addr .ring ((s.w.toNat + i) % 2048) + 4 ≤ a) → t.mem.readByte a = s.mem.readByte a) ∧
      ((s.w - s.r).toNat < 2048 →
        t.r = s.r ∧ t.ovrcnt = s.ovrcnt ∧ t.irqPend = s.irqPend ||| 0b000010) ∧
      (2048 ≤ (s.w - s.r).toNat →
        t.r = s.r + 128 ∧ t.ovrcnt.toNat = min (s.ovrcnt.toNat + 1) (2 ^ 32 - 1) ∧
        t.irqPend = s.irqPend ||| 0b000110) ∧
      t = { s with w := t.w, r := t.r, ovrcnt := t.ovrcnt, stgCnt := 0, mem := t.mem, irqPend := t.irqPend })

/-- R79: the producer never holds: a PDATA or PCMD write is always an event that leaves the sequencer alone, and a producer
with anything left to do always has an enabled event. -/
def Obligations.ProducerNeverHolds : Prop :=
  ∀ (s : State) (v : Word),
    (∃ t, busWrite 0x018 4 v s = .next t ∧ SameSequencer s t) ∧
    (∃ t, busWrite 0x014 4 v s = .next t ∧ SameSequencer s t) ∧
    (s.enabled .producer = true ↔ s.producerProg ≠ [])

/-- R95, R118: NOP completes in its acceptance event with no effect, in every STATE; it is refused with NOTALLOWED while
AUTO = 1 and with BUSY while a command runs. -/
def Obligations.NopFollowsItsRule : Prop :=
  ∀ s : State,
    (s.auto = false → s.cbusy = false → exec .nop s = .next s) ∧
    (s.auto = true → exec .nop s = .next (raiseFault .notallowed 0x00000010 s)) ∧
    (s.auto = false → s.cbusy = true → exec .nop s = .next (raiseFault .busy 0x00000010 s))

/-- R96: SNAPSHOT's acceptance sets cstage and CWAIT. In the sequencer's event a STATE other than RUNNING cancels it;
otherwise it copies the newest 2048 samples, records LAG and WEND, and R becomes W. That `exec` of a held SNAPSHOT answers
the state as it is, is the model's reading of R16 (log 12), by which a held agent has no step. -/
def Obligations.SnapshotFollowsItsRule : Prop :=
  (∀ s : State, s.turn ≠ .sequencer → s.auto = false → s.cbusy = false → s.mode = .running →
    exec .snapshot s =
      .next { s with cbusy := true, curcmd := 0x00000011, cstage := .snapshot, cwait := true }) ∧
  ∀ s : State, s.executing .snapshot = true →
    ((s.w - s.r).toNat < 128 → s.mode = .running → exec .snapshot s = .next s) ∧
    (s.mode ≠ .running → ∃ t, exec .snapshot s = .next t ∧ Finished 0 s t ∧ SameAround s t ∧ SameDatapath s t ∧
      SameBytes s t) ∧
    (128 ≤ (s.w - s.r).toNat → s.mode = .running → ∃ t, exec .snapshot s = .next t ∧
      t.lag.toNat = (s.w - s.r).toNat / 128 ∧ t.wend = s.w ∧ t.r = s.w ∧
      (∀ i, i < 2048 → t.elem .win i = s.elem .ring (((s.w - 2048).toNat + i) % 2048)) ∧
      SameBytesOutside s t .win 0 2048 ∧ Finished 0 s t ∧ SameAround s t ∧ SameTransientRegs s t ∧
      SameWhitenRegs s t ∧ SameSolveRegs s t ∧ SameResults s t)

/-- R97, R78: whatever happened in the session before, a SNAPSHOT (alone or as stage 1 of a STEP) leaves in WIN the most
recent 2048 samples committed, oldest first, with +0.0 where fewer were pushed. -/
def Obligations.RoundTripLaw : Prop :=
  ∀ (xs : List Word) (s t : State), SessionHistory xs s → s.sequencerMoves → s.cbusy = true →
    (s.curcmd = 0x11 ∨ (s.curcmd = 0x60 ∧ s.cstage = .snapshot)) →
    s.mode = .running → 128 ≤ (s.w - s.r).toNat → step s = .next t →
    t.elems .win 0 2048 = (List.replicate 2048 0 ++ xs).drop xs.length

/-- R98: what a session's events do to the count of steps. A commit adds one step, to AVAIL or to the overruns; a SNAPSHOT
takes at least one and all that are available; no other event changes the count. -/
def Obligations.StepsAreConserved : Prop :=
  ∀ s t : State, CursorInv s → step s = .next t → s.mode ≠ .idle → t.mode ≠ .idle → s.ovrcnt.toNat < 2 ^ 32 - 1 →
    (t.w = s.w ∧ t.avail + t.ovrcnt.toNat = s.avail + s.ovrcnt.toNat) ∨
    (t.w = s.w + 128 ∧ t.avail + t.ovrcnt.toNat = s.avail + s.ovrcnt.toNat + 1) ∨
    (t.w = s.w ∧ t.ovrcnt = s.ovrcnt ∧ t.avail = 0 ∧ t.lag.toNat = s.avail ∧ 1 ≤ s.avail)

/-! ### The spectral analyzer and the transient detector -/

/-- R100: WINDOW. -/
def Obligations.WindowMultiplies : Prop :=
  ∀ s : State, s.executing .window = true →
    ∃ t, exec .window s = .next t ∧
      (∀ n, n < s.lat.alenN → t.elem .pad n = fmul (s.elem .win (2048 - s.lat.alenN + n)) (s.elem .wcoef n)) ∧
      SameBytesOutside s t .pad 0 s.lat.alenN ∧ Finished 0 s t ∧ SameAround s t ∧ SameDatapath s t

/-- R101: ZEROPAD. -/
def Obligations.ZeropadClears : Prop :=
  ∀ s : State, s.executing .zeropad = true →
    ∃ t, exec .zeropad s = .next t ∧
      (∀ n, s.lat.alenN ≤ n → n < s.lat.nfftN → t.elem .pad n = 0) ∧
      SameBytesOutside s t .pad s.lat.alenN (s.lat.nfftN - s.lat.alenN) ∧
      Finished 0 s t ∧ SameAround s t ∧ SameDatapath s t

/-- R102 with laws (a) to (e) of R103; laws (f), with `fft_err` unbounded, and (g) constrain nothing. Where PAD[0] is a zero,
law (c) is stated with a zero of either sign, the model's choice (log 5), which law (b) allows. -/
def Obligations.TransformObeysItsLaws : Prop :=
  ∀ s : State, s.executing .fft = true →
    ∃ t, exec .fft s = .next t ∧
      ((∀ n, n < s.lat.nfftN → isZero (s.elem .pad n) = true) →
        ∀ k, k < s.lat.bins → isZero (t.elem .xre k) = true ∧ isZero (t.elem .xim k) = true) ∧
      (isFinite (s.elem .pad 0) = true → (∀ n, 1 ≤ n → n < s.lat.nfftN → isZero (s.elem .pad n) = true) →
        ∀ k, k < s.lat.bins →
          (t.elem .xre k = s.elem .pad 0 ∨ (isZero (s.elem .pad 0) = true ∧ isZero (t.elem .xre k) = true)) ∧
          isZero (t.elem .xim k) = true) ∧
      ((∀ n, n < s.lat.nfftN → isFinite (s.elem .pad n) = true) → isZero (t.elem .xim 0) = true) ∧
      ((∀ n, n < s.lat.nfftN → isFinite (s.elem .pad n) = true) →
        ((List.range s.lat.nfftN).map fun n => fmag (s.elem .pad n)).sum < 2 ^ (127 + 149) →
        ∀ k, k < s.lat.bins → isFinite (t.elem .xre k) = true ∧ isFinite (t.elem .xim k) = true) ∧
      (∀ a, a < Region.addr .xre 0 ∨ (Region.addr .xre s.lat.bins ≤ a ∧ a < Region.addr .xim 0) ∨
        Region.addr .xim s.lat.bins ≤ a → t.mem.readByte a = s.mem.readByte a) ∧
      Finished 0 s t ∧ SameAround s t ∧ SameDatapath s t ∧
      (∀ s' t' : State, s'.executing .fft = true → s'.lat.nfft = s.lat.nfft →
        (∀ n, n < s.lat.nfftN → s'.elem .pad n = s.elem .pad n) → exec .fft s' = .next t' →
        ∀ k, k < s.lat.bins → t'.elem .xre k = t.elem .xre k ∧ t'.elem .xim k = t.elem .xim k)

/-- R104: MAG. -/
def Obligations.MagTakesTheModulus : Prop :=
  ∀ s : State, s.executing .mag = true →
    ∃ t, exec .mag s = .next t ∧
      (∀ k, k < s.lat.bins → t.elem .mag k =
        fsqrt (fadd (fmul (s.elem .xre k) (s.elem .xre k)) (fmul (s.elem .xim k) (s.elem .xim k)))) ∧
      SameBytesOutside s t .mag 0 s.lat.bins ∧ Finished 0 s t ∧ SameAround s t ∧ SameDatapath s t

/-- R105, R106: WHITEN, with the dominant bin and its frequency. -/
def Obligations.WhitenFollowsItsRule : Prop :=
  ∀ s : State, s.executing .whiten = true →
    let e := fdiv ((List.range s.lat.bins).foldl (fun acc k => fadd acc (s.elem .mag k)) 0) (f32 s.lat.bins)
    let f := if s.wfirst then e else fadd s.wfloor (fmul s.cfg.walpha (fsub e s.wfloor))
    let d := if fgt f s.cfg.weps then f else s.cfg.weps
    ∃ t, exec .whiten s = .next t ∧ t.wfloor = d ∧ t.wfirst = false ∧
      (∀ k, k < s.lat.bins → t.elem .wht k = fdiv (s.elem .mag k) d) ∧
      (∃ k, IsPeak (fun j => t.elem .wht j) s.lat.bins k ∧ t.wDombin.toNat = k ∧
        t.wDomf = fmul (f32 k) s.lat.delta) ∧
      SameBytesOutside s t .wht 0 s.lat.bins ∧ Finished 0 s t ∧ SameAround s t ∧ SameWindowRegs s t ∧
      SameTransientRegs s t ∧ SameSolveRegs s t ∧ SameResults s t

/-- R107: `fmul(f32(k), Δ)` is the exact frequency `k·FS/NFFT` of every bin. -/
def Obligations.BinFrequenciesAreExact : Prop :=
  ∀ (l : Latched) (k : Nat), k < l.bins →
    isFinite (fmul (f32 k) l.delta) = true ∧ fval (fmul (f32 k) l.delta) * l.nfftN = k * 48000 * 2 ^ 149

/-- R108: TRANSIENT. -/
def Obligations.TransientFollowsItsRule : Prop :=
  ∀ s : State, s.executing .transient = true →
    let acc := (List.range 128).foldl
      (fun acc i => fadd acc (fmul (s.elem .win (1920 + i)) (s.elem .win (1920 + i)))) 0
    let rms := fsqrt (fdiv acc 0x43000000)
    let flux := fsub rms s.prevRms
    ∃ t, exec .transient s = .next t ∧ t.tRms = rms ∧ t.tFlux = flux ∧ t.prevRms = rms ∧
      t.tFlags.tdet = fgt flux s.cfg.tthr ∧ SameBytes s t ∧ Finished 0 s t ∧ SameAround s t ∧
      SameWindowRegs s t ∧ SameWhitenRegs s t ∧ SameSolveRegs s t ∧ SameResults s t

/-- R110: a frame of the RMS of the frame before gives flux +0.0 and no transient; a rise above the threshold by more than
half a unit in the last place of the new RMS gives one. Values are in units of 2^-149. -/
def Obligations.TransientProperty : Prop :=
  ∀ s : State, s.executing .transient = true → isFinite s.prevRms = true → flt s.cfg.tthr 0 = false →
    (rmsOf s.currentFrame = s.prevRms →
      ∃ t, exec .transient s = .next t ∧ t.tFlux = 0 ∧ t.tFlags.tdet = false) ∧
    (isFinite (rmsOf s.currentFrame) = true → isFinite s.cfg.tthr = true → 0 ≤ fval s.prevRms →
      (2 : Int) ^ (Nat.log2 (fmag (rmsOf s.currentFrame)) - 23) <
        2 * (fval (rmsOf s.currentFrame) - fval s.prevRms - fval s.cfg.tthr) →
      ∃ t, exec .transient s = .next t ∧ t.tFlags.tdet = true)

/-! ### The chord solver -/

/-- R111: the peak is the lowest of the largest bins above DC; a NaN never wins, and a NaN in bin 1 is never replaced. -/
def Obligations.PeakExtraction : Prop :=
  ∀ xs : List Word, 2 ≤ xs.length → IsPeak (fun j => xs.getD j 0) xs.length (argmax xs)

/-- R112: the tolerance window, in real arithmetic. -/
def Obligations.ToleranceWindow : Prop :=
  ∀ (l : Latched) (kc h k : Nat), finiteNonneg l.htol = true → 1 ≤ kc → 1 ≤ h → h * kc ≤ l.bins - 1 →
    let tol : ℝ := (fval l.htol : ℝ) / 2 ^ 149
    let delta : ℝ := 48000 / l.nfftN
    (k ∈ near l (h * kc) ↔ 1 ≤ k ∧ k ≤ l.bins - 1 ∧
      (l.hunit = .hz → |(k : ℝ) - h * kc| * delta ≤ tol) ∧
      (l.hunit = .cents → h * kc * delta * (2 : ℝ) ^ (-tol / 1200) ≤ k * delta ∧
        k * delta ≤ h * kc * delta * (2 : ℝ) ^ (tol / 1200))) ∧
    h * kc ∈ near l (h * kc)

/-- R114: the MIDI note of a bin, in real arithmetic. -/
def Obligations.MidiNote : Prop :=
  ∀ (l : Latched) (kc : Nat), 1 ≤ kc → kc < l.bins →
    (midi l kc : ℤ) =
      min 127 (max 0 (round (69 + 12 * Real.logb 2 ((kc : ℝ) * (48000 / l.nfftN) / 440))))

/-- R115, R113: SOLVE's event, the loop as the relation `SolverRun` of Safety.lean. -/
def Obligations.SolveFollowsItsRule : Prop :=
  ∀ s : State, s.executing .solve = true →
    ∃ t, exec .solve s = .next t ∧
      (flt s.tRms s.lat.silence = true →
        (∀ k, k < s.lat.bins → t.elem .scr k = s.elem .wht k) ∧
        t.wNc = 0 ∧ t.tFlags.gated = true ∧ t.tFlags.capped = false) ∧
      (flt s.tRms s.lat.silence = false →
        ∃ r, SolverRun s.lat 0 ((List.range s.lat.bins).map fun k => s.elem .wht k) [] r ∧
          (∀ k, k < s.lat.bins → t.elem .scr k = r.scr.getD k 0) ∧
          t.wNc.toNat = r.cands.length ∧ r.cands.length ≤ 16 ∧
          (∀ i, i < r.cands.length → t.wc.getD i Cand.zero = r.cands.getD i Cand.zero) ∧
          t.tFlags.gated = false ∧ t.tFlags.capped = r.capped) ∧
      SameBytesOutside s t .scr 0 s.lat.bins ∧ Finished 0 s t ∧ SameAround s t ∧ SameWindowRegs s t ∧
      SameTransientRegs s t ∧ SameWhitenRegs s t ∧ SameResults s t

/-- R116: the laws of a SOLVE on a finite, non-negative spectrum under a legal configuration. -/
def Obligations.SolveLaws : Prop :=
  ∀ s : State, s.executing .solve = true →
    (∀ k, k < s.lat.bins → finiteNonneg (s.elem .wht k) = true) →
    finiteNonneg s.lat.nfloor = true → finiteNonneg s.lat.hsub = true → finiteNonneg s.lat.htol = true →
    ∃ t, exec .solve s = .next t ∧
      let c := fun i => t.wc.getD i Cand.zero
      t.wNc.toNat ≤ s.lat.maxn.val ∧
      (∀ i, i < t.wNc.toNat → fgt (c i).mag s.lat.nfloor = true) ∧
      ∀ i j, i < j → j < t.wNc.toNat →
        fgt (c j).mag (c i).mag = false ∧ (c i).bin ≠ (c j).bin ∧
        ((c i).mag = (c j).mag → (c i).bin.toNat < (c j).bin.toNat) ∧
        ∀ h, 2 ≤ h → h * (c i).bin.toNat ≤ s.lat.bins - 1 → (c j).bin.toNat ∉ near s.lat (h * (c i).bin.toNat)

/-! ### The sequencer -/

/-- R118: the acceptance of a word written to CCMD, in the order of its checks. The turn is a bus agent's (log 1); what the
bus answers is left open. -/
def Obligations.AcceptanceFollowsItsOrder : Prop :=
  ∀ (s : State) (w : Word), s.turn ≠ .sequencer → ∃ data error,
    let u := { s with busData := data, busError := error }
    (∀ e, decode .ccmd w = .error e → busWrite 0x01C 4 w s = .next (raiseFault .illegal w u)) ∧
    ∀ m, decode .ccmd w = .ok m →
      busWrite 0x01C 4 w s =
        if s.auto then .next (raiseFault .notallowed w u)
        else if s.cbusy then .next (raiseFault .busy w u)
        else if m ≠ .nop ∧ s.mode ≠ .running then .next (raiseFault .notallowed w u)
        else if m = .nop then .next u
        else .next { u with
          cbusy := true
          curcmd := w
          cstage := m.stages.headD .none
          cwait := if m.stages.headD .none = .snapshot then true else s.cwait }

/-- R119: when the sequencer has an enabled event, and that every stage command but SNAPSHOT completes in one event with
`finish()`, whatever STATE is. PUBLISH also pends STEP_DONE. -/
def Obligations.CommandsRunToTheirFinish : Prop :=
  (∀ s : State, s.enabled .sequencer = true ↔
    (s.cbusy = true ∧ (s.cstage ≠ .snapshot ∨ 128 ≤ (s.w - s.r).toNat ∨ s.mode ≠ .running)) ∨
    (s.cbusy = false ∧ s.auto = true ∧ s.mode = .running ∧ 128 ≤ (s.w - s.r).toNat)) ∧
  (∀ (s : State) (i : Instr),
    i ∈ ([.transient, .window, .zeropad, .fft, .mag, .whiten, .solve, .publish] : List Instr) →
    s.executing i = true →
    ∃ t, exec i s = .next t ∧ Finished (if i = .publish then 1 else 0) s t ∧ SameAround s t)

/-- R120: PUBLISH copies the working registers and candidates in one event. -/
def Obligations.PublishCopiesTheStep : Prop :=
  ∀ s : State, s.executing .publish = true →
    ∃ t, exec .publish s = .next t ∧
      t.bank.seq = s.bank.seq + 1 ∧ t.bank.wend = s.wend ∧ t.bank.lag = s.lag ∧ t.bank.flags = s.tFlags ∧
      t.bank.rms = s.tRms ∧ t.bank.flux = s.tFlux ∧ t.bank.ncand = s.wNc ∧ t.bank.dombin = s.wDombin ∧
      t.bank.domf = s.wDomf ∧ t.bank.floor = s.wfloor ∧
      (∀ i, i < 16 → t.cand.getD i Cand.zero = if i < s.wNc.toNat then s.wc.getD i Cand.zero else ⟨0, 0, 0, 0⟩) ∧
      SameBytes s t ∧ Finished 0b000001 s t ∧ SameAround s t ∧ SameWindowRegs s t ∧ SameTransientRegs s t ∧
      SameWhitenRegs s t ∧ SameSolveRegs s t

/-- R121: at each stage a STEP does what the stage's command does, and goes on to the next stage in place of `finish()`;
its last stage is PUBLISH's event; in stage 1 it is cancelled by a STATE other than RUNNING and publishes nothing. That
`exec` of a held STEP answers the state as it is, is the model's reading of R16 (log 12). -/
def Obligations.StepRunsItsStages : Prop :=
  ∀ s : State, s.executing .step = true →
    (∀ e ∈ ([(.snapshot, .snapshot, .transient), (.transient, .transient, .window), (.window, .window, .zeropad),
        (.zeropad, .zeropad, .fft), (.fft, .fft, .mag), (.mag, .mag, .whiten), (.whiten, .whiten, .solve),
        (.solve, .solve, .publish)] : List (Instr × Stage × Stage)),
      s.cstage = e.2.1 → (e.1 = .snapshot → s.mode = .running ∧ 128 ≤ (s.w - s.r).toNat) →
      ∃ t, exec e.1 { s with curcmd := encode e.1 } = .next t ∧
        exec .step s = .next { t with
          cbusy := true
          cwait := if e.1 = .snapshot then false else s.cwait
          curcmd := encode .step
          cstage := e.2.2
          mode := s.mode
          irqPend := s.irqPend }) ∧
    (s.cstage = .publish → exec .step s = exec .publish { s with curcmd := encode .publish }) ∧
    (s.cstage = .snapshot → s.mode ≠ .running →
      ∃ t, exec .step s = .next t ∧ Finished 0 s t ∧ SameAround s t ∧ SameDatapath s t ∧ SameBytes s t) ∧
    (s.cstage = .snapshot → s.mode = .running → (s.w - s.r).toNat < 128 → exec .step s = .next s)

/-- R121: a STEP with a step available runs nine events, consumes every available step, publishes once, and the bank then
holds what the stages left. -/
def Obligations.StepRunsNineEvents : Prop :=
  ∀ s : State, s.executing .step = true → s.cstage = .snapshot → s.mode = .running → 128 ≤ (s.w - s.r).toNat →
    ∃ t, execTimes .step 9 s = .next t ∧
      t.r = s.w ∧ t.w = s.w ∧ t.avail = 0 ∧ t.cbusy = false ∧ t.mode = .running ∧ t.wfirst = false ∧
      t.bank = ⟨s.bank.seq + 1, s.w, BitVec.ofNat 32 ((s.w - s.r).toNat / 128), t.tFlags, t.tRms, t.tFlux, t.wNc,
        t.wDombin, t.wDomf, t.wfloor⟩ ∧
      t.tRms = rmsOf ((List.range 128).map fun i => s.elem .ring (((s.w - 128).toNat + i) % 2048)) ∧
      t.prevRms = t.tRms ∧ t.tFlux = fsub t.tRms s.prevRms ∧
      Finished 0b000001 s t ∧ SameAround s t ∧
      (∀ a, a < Region.addr .win 0 ∨ Region.addr .wcoef 0 ≤ a → t.mem.readByte a = s.mem.readByte a)

/-- R122: the AUTO start is enabled exactly under its four conditions and starts a STEP. -/
def Obligations.AutoStartFollowsItsRule : Prop :=
  (∀ s : State, s.cbusy = false → (s.enabled .sequencer = true ↔
    s.auto = true ∧ s.mode = .running ∧ 128 ≤ (s.w - s.r).toNat)) ∧
  (∀ s u : State, chooseAgent s = some (.sequencer, u) → s.cbusy = false →
    step s = .next { u with
      turn := .sequencer
      cbusy := true
      curcmd := 0x00000060
      cstage := .snapshot
      cwait := true })

/-- R123: within one session, two reads of RES_SEQ that agree, with fewer than 2^32 events between, have the same result
bank at both. -/
def Obligations.SeqlockDetectsEveryPublish : Prop :=
  ∀ (n : Nat) (s t : State), SessionRun n s t → n < 2 ^ 32 → t.bank.seq = s.bank.seq →
    t.bank = s.bank ∧ t.cand = s.cand

/-! ### Host control -/

/-- R124, R125: START. -/
def Obligations.StartFollowsItsRule : Prop :=
  ∀ s : State,
    (s.mode ≠ .idle → exec .start s = .next (raiseFault .notallowed 0x00000080 s)) ∧
    (∀ c : CfgReg, s.mode = .idle → ¬ LegalValue c (s.cfg.get c) →
      (∀ d : CfgReg, d.addr < c.addr → LegalValue d (s.cfg.get d)) →
      exec .start s = .next (raiseFault .config (BitVec.ofNat 32 c.addr) s)) ∧
    (s.mode = .idle → (∀ c : CfgReg, LegalValue c (s.cfg.get c)) →
      ∃ t, exec .start s = .next t ∧ t.mode = .running ∧
        t.lat.alenN = s.cfg.alen.toNat ∧ t.lat.nfftN = s.cfg.nfft.toNat ∧
        (t.lat.wkind = .blackmanHarris ↔ s.cfg.wkind = 0) ∧ (t.lat.hunit = .hz ↔ s.cfg.hunit = 0) ∧
        t.lat.maxn.val = s.cfg.maxn.toNat ∧ t.lat.nfloor = s.cfg.nfloor ∧ t.lat.htol = s.cfg.htol ∧
        t.lat.hsub = s.cfg.hsub ∧ t.lat.silence = s.cfg.silence)

/-- R126: what a successful START initialises, and what it leaves. -/
def Obligations.StartInitialisesTheSession : Prop :=
  ∀ s : State, s.mode = .idle → (∀ c : CfgReg, LegalValue c (s.cfg.get c)) →
    ∃ t, exec .start s = .next t ∧
      t.w = 0 ∧ t.r = 0 ∧ t.ovrcnt = 0 ∧ t.prevRms = 0 ∧ t.wfloor = 0 ∧ t.wfirst = true ∧ t.stgCnt = 0 ∧
      t.wend = 0 ∧ t.lag = 0 ∧ t.tRms = 0 ∧ t.tFlux = 0 ∧ t.tFlags = ⟨false, false, false⟩ ∧ t.wNc = 0 ∧
      t.wDombin = 0 ∧ t.wDomf = 0 ∧ t.wc = List.replicate 16 Cand.zero ∧ t.bank = Bank.zero ∧
      t.cand = List.replicate 16 Cand.zero ∧
      (∀ e ∈ ([(.ring, 2048), (.win, 2048), (.pad, 4096), (.xre, 2049), (.xim, 2049), (.mag, 2049), (.wht, 2049),
        (.scr, 2049)] : List (Region × Nat)), ∀ i, i < e.2 → t.elem e.1 i = 0) ∧
      (∀ n, n < t.lat.alenN → t.elem .wcoef n = (windowTable t.lat.wkind t.lat.alenN).getD n 0) ∧
      t.auto = s.auto ∧ t.igncnt = s.igncnt ∧ t.fault = s.fault ∧ t.fcause = s.fcause ∧ t.finfo = s.finfo ∧
      t.irqEn = s.irqEn ∧ t.irqPend = s.irqPend ∧ t.cfg = s.cfg ∧ t.stg = s.stg ∧ SameSequencer s t ∧
      SameLaunch s t ∧ t.faultsSeen = s.faultsSeen ∧ t.refusedMark = s.refusedMark

/-- R99: every entry of the window table is the exact real formula rounded once, the tables are symmetric, and Hann's ends
are +0.0. -/
def Obligations.WindowTableIsCorrectlyRounded : Prop :=
  ∀ (k : WKind) (len : ALen) (n : Nat), n < len.toNat →
    let table := windowTable k len.toNat
    let theta : ℝ := 2 * Real.pi * n / (len.toNat - 1)
    table.length = len.toNat ∧
    IsRNE32
      (match k with
        | .blackmanHarris =>
          0.35875 - 0.48829 * Real.cos theta + 0.14128 * Real.cos (2 * theta) - 0.01168 * Real.cos (3 * theta)
        | .hann => 0.5 - 0.5 * Real.cos theta)
      (table.getD n 0) ∧
    table.getD n 0 = table.getD (len.toNat - 1 - n) 0 ∧
    (k = .hann → n = 0 → table.getD n 0 = 0)

/-- R127: STOP. -/
def Obligations.StopFollowsItsRule : Prop :=
  ∀ s : State,
    (s.mode = .running → s.cbusy = true → exec .stop s = .next { s with mode := .stopping }) ∧
    (s.mode = .running → s.cbusy = false →
      exec .stop s = .next { s with mode := .idle, irqPend := s.irqPend ||| 0b100000 }) ∧
    (s.mode ≠ .running → exec .stop s = .next s)

/-- R128: CLRFAULT. -/
def Obligations.ClrfaultFollowsItsRule : Prop :=
  ∀ s : State,
    (s.mode = .faulted → s.cbusy = true →
      exec .clrfault s = .next { s with fault := 0, fcause := 0, finfo := 0, mode := .stopping }) ∧
    (s.mode = .faulted → s.cbusy = false →
      exec .clrfault s =
        .next { s with fault := 0, fcause := 0, finfo := 0, mode := .idle, irqPend := s.irqPend ||| 0b100000 }) ∧
    (s.mode ≠ .faulted → exec .clrfault s = .next { s with fault := 0, fcause := 0, finfo := 0 })

/-! ### Arithmetic -/

/-- R15: the binary32 operations give the exact result rounded once, comparisons are false on NaN, a NaN result is the
canonical one, and `f32` is exact on every integer the rules pass. R15 takes the operations from IEEE-754 without restating
them; what they are is the model's presumption (log 13). -/
def Obligations.OperationsRoundOnce : Prop :=
  (∀ a b : Word, isFinite a = true → isFinite b = true →
    let x : ℝ := (fval a : ℝ) / 2 ^ 149
    let y : ℝ := (fval b : ℝ) / 2 ^ 149
    IsRNE32 (x + y) (fadd a b) ∧ IsRNE32 (x - y) (fsub a b) ∧ IsRNE32 (x * y) (fmul a b) ∧
    (isZero b = false → IsRNE32 (x / y) (fdiv a b)) ∧ (0 ≤ x → IsRNE32 (Real.sqrt x) (fsqrt a)) ∧
    (fgt a b = true ↔ y < x) ∧ (flt a b = true ↔ x < y)) ∧
  (∀ a b : Word, isNaN a = true ∨ isNaN b = true →
    fadd a b = qNaN ∧ fsub a b = qNaN ∧ fmul a b = qNaN ∧ fdiv a b = qNaN ∧ fgt a b = false ∧ flt a b = false) ∧
  (∀ a b : Word, (isNaN (fadd a b) = true → fadd a b = qNaN) ∧ (isNaN (fmul a b) = true → fmul a b = qNaN) ∧
    (isNaN (fdiv a b) = true → fdiv a b = qNaN) ∧ (isNaN (fsqrt a) = true → fsqrt a = qNaN)) ∧
  (∀ n : Nat, n ≤ 2 ^ 24 → isFinite (f32 n) = true ∧ fval (f32 n) = n * 2 ^ 149)

/-! ### Invariants and whole-machine rules -/

/-- The invariants hold at reset and at the start of every launch from reset. A launch from a stated start state leaves the
block as it is and keeps the block's invariants; its programs are the ones given and its marks are clear (R149, R150). -/
def Obligations.InvariantsHoldAtReset : Prop :=
  (∀ (start : State) (host producer reader : List AgentOp) (sched : List Agent),
    let s := start.launchFrom host producer reader sched
    s.prog .host = host ∧ s.prog .producer = producer ∧ s.prog .reader = reader ∧ s.sched = sched ∧
      CleanLaunch s ∧ (∀ r, s.readReg r = start.readReg r) ∧ s.mem = start.mem ∧ s.stg = start.stg ∧
      SameControl start s ∧ SameSequencer start s ∧ SameDatapath start s ∧
      (CursorInv start → CursorInv s) ∧ (SessionInv start → SessionInv s) ∧ (MemoryInv start → MemoryInv s) ∧
      (CandidateInv start → CandidateInv s) ∧ (ConfigInv start → ConfigInv s)) ∧
  ∀ (host producer reader : List AgentOp) (sched : List Agent),
    let s := State.launch host producer reader sched
    CursorInv s ∧ SessionInv s ∧ MemoryInv s ∧ CandidateInv s ∧ ConfigInv s ∧ FaultInv s ∧ CursorInv State.reset ∧
      SessionInv State.reset ∧ MemoryInv State.reset

/-- R27: every event keeps the cursor invariant, so every reachable state has it. -/
def Obligations.CursorInvariantIsKept : Prop :=
  (∀ s t : State, CursorInv s → step s = .next t → CursorInv t) ∧ ∀ s : State, Reachable s → CursorInv s

/-- R130, R65, R66: every event keeps the session invariants: in IDLE no command runs, STOPPING implies CBUSY, CWAIT = 1
exactly at stage 1, cstage and curcmd are 0 when CBUSY = 0. -/
def Obligations.SessionInvariantsAreKept : Prop :=
  ∀ s t : State, SessionInv s → step s = .next t → SessionInv t

/-- Every event keeps both memories in canonical form and inside their addresses (the model's form, log 17). -/
def Obligations.MemoryFormIsKept : Prop :=
  ∀ s t : State, MemoryInv s → step s = .next t → MemoryInv t

/-- Every event keeps the candidate counts within 16, the configuration legal and latched outside IDLE, and the fault
record consistent; the launch's marks never go back (R52, R53, R67, R133, R150, R151). -/
def Obligations.RegisterInvariantsAreKept : Prop :=
  ∀ s t : State, step s = .next t →
    (CandidateInv s → CandidateInv t) ∧ (ConfigInv s → ConfigInv t) ∧ (FaultInv s → FaultInv t) ∧
    (∀ b, s.faultsSeen.getLsbD b = true → t.faultsSeen.getLsbD b = true) ∧
    (s.refusedMark = true → t.refusedMark = true)

/-- R130: every event that changes STATE is a row of the table. -/
def Obligations.StateChangesOnlyAsTheTableSays : Prop :=
  ∀ s t : State, SessionInv s → step s = .next t → t.mode ≠ s.mode →
    (s.mode = .idle ∧ t.mode = .running ∧ s.arrives .start) ∨
    (s.mode = .running ∧ t.mode = .idle ∧ s.cbusy = false ∧ t.irqPend.getLsbD 5 = true ∧ s.arrives .stop) ∨
    (s.mode = .running ∧ t.mode = .stopping ∧ s.cbusy = true ∧ s.arrives .stop) ∨
    (s.mode = .running ∧ t.mode = .faulted ∧ ∃ ch, s.arrives (.push ch) ∧ (ch ≠ 1 ∨ s.stgCnt ≠ 128)) ∨
    (s.mode = .stopping ∧ t.mode = .idle ∧ t.cbusy = false ∧ t.irqPend.getLsbD 5 = true ∧ s.sequencerMoves) ∨
    (s.mode = .faulted ∧ t.mode = .idle ∧ s.cbusy = false ∧ t.irqPend.getLsbD 5 = true ∧ s.arrives .clrfault) ∨
    (s.mode = .faulted ∧ t.mode = .stopping ∧ s.cbusy = true ∧ s.arrives .clrfault) ∨
    (t.mode = .idle ∧ s.arrives (.srst 0xA5))

/-- R25, R26, R54: who writes W, R and the result bank. -/
def Obligations.WritersOfCursorsAndResults : Prop :=
  ∀ s t : State, step s = .next t →
    (t.w ≠ s.w → (t.w = s.w + 128 ∧ s.mode = .running ∧ s.stgCnt = 128 ∧ s.arrives (.push 1)) ∨
      (t.w = 0 ∧ (s.arrives .start ∨ s.arrives (.srst 0xA5)))) ∧
    (t.r ≠ s.r → (t.r = s.r + 128 ∧ 2048 ≤ (s.w - s.r).toNat ∧ s.arrives (.push 1)) ∨
      (t.r = s.w ∧ 128 ≤ (s.w - s.r).toNat ∧ s.cbusy = true ∧ s.sequencerMoves) ∨
      (t.r = 0 ∧ (s.arrives .start ∨ s.arrives (.srst 0xA5)))) ∧
    (t.bank ≠ s.bank ∨ t.cand ≠ s.cand →
      (s.sequencerMoves ∧ s.cbusy = true ∧ (s.curcmd = 0x50 ∨ (s.curcmd = 0x60 ∧ s.cstage = .publish))) ∨
      s.arrives .start ∨ s.arrives (.srst 0xA5))

/-! ### Agents, the schedule and the end of a run -/

/-- What a step of a program does (R14, R90, R91): a read is one bus read and a write one bus write, with the operation used
up; a POLL is one read, and is used up by the read that meets its condition (log 21), in a run that is not stuck (the
model's choice, log 10). Every agent has the same rights (R141): the access is the same whoever sends it. That a write of
another agent than the Producer to PDATA or PCMD sets the launch's mark `refused` is the model's reading of R131 and R150
(log 7). -/
def Obligations.AgentsPerformTheirPrograms : Prop :=
  ∀ (s u : State) (who : Agent) (op : AgentOp) (rest : List AgentOp),
    chooseAgent s = some (who, u) → s.prog who = op :: rest →
    let v := { u with turn := who }
    (∀ a size, op = .read a size → step s = .next (busRead a size (v.setProg who rest))) ∧
    (∀ a mask val, op = .poll a mask val → s.stalled = false →
      ((busRead a 4 v).busData &&& mask = val → step s = .next ((busRead a 4 v).setProg who rest)) ∧
      ((busRead a 4 v).busData &&& mask ≠ val → step s = .next (busRead a 4 v))) ∧
    (∀ a size w, op = .write a size w →
      step s = busWrite a size w { v.setProg who rest with
        refusedMark := s.refusedMark || decide (who ≠ .producer ∧ size = 4 ∧ (a = 0x014 ∨ a = 0x018)) })

/-- R10, R17: any agent with an enabled event may move next; and an enabled sequencer step is eventually taken, since no
wait of the sequencer passes over more events than its bound, whatever the free schedule is (log 2). -/
def Obligations.SequencerIsServedFairly : Prop :=
  (∀ (s : State) (who : Agent) (rest : List Agent), s.enabled who = true →
    chooseAgent { s with sched := who :: rest } = some (who, { s with sched := rest })) ∧
  (∀ (n : Nat) (s t : State), PassedOver n s t →
    n ≤ s.sched.length + (s.waitFrom + Config.patience s.waitFrom - s.turns)) ∧
  ∀ run : Nat → State, (∀ n, StepsTo (run n) (run (n + 1))) →
    ∀ m, ∃ n, m ≤ n ∧ ((run n).sequencerMoves ∨ (run n).enabled .sequencer = false)

/-- Every event keeps a stuck run stuck, with SNAPSHOT's wait not lifted; and where a run is over or stuck with every program
exhausted, no step follows. What counts as stuck (`State.isStuck`: which operations can lift the wait, and a POLL that can
never be met) and that a step then stops with the fault `stuck`, or with `runOver`, are the model's choice (log 10). The
rule's own part is that a run is over exactly when every program is exhausted and the sequencer has no enabled event, and
that with CWAIT = 1 it is not over (R149). -/
def Obligations.StuckRunsStayStuck : Prop :=
  (∀ s t : State, SessionInv s → s.isStuck = true → step s = .next t →
    t.isStuck = true ∧ t.cwait = true ∧ t.mode = .running ∧ t.bank = s.bank ∧ t.w = s.w) ∧
  ∀ s : State,
    (s.isOver = true ↔ s.producerProg = [] ∧ s.hostProg = [] ∧ s.readerProg = [] ∧ s.enabled .sequencer = false ∧
      s.cwait = false) ∧
    (s.isOver = true → step s = .fault .runOver) ∧
    (s.exhausted = true → s.isStuck = true → step s = .fault .stuck)

/-! ### Arithmetic beyond finite operands -/

/-- Where R15's operations meet infinities, zero divisors, roots of negative numbers and zero results. R15 names IEEE-754
without restating these cases; what they give is the model's presumption (log 13). -/
def Obligations.SpecialOperandsFollowIEEE : Prop :=
  (∀ a b : Word, isInf a = true → isNaN b = false →
    fadd a b = (if isInf b = true ∧ fsign a ≠ fsign b then qNaN else a) ∧ fadd b a = fadd a b ∧
    (let signed : Word := if fsign a = fsign b then 0x7F800000 else 0xFF800000
     fmul a b = (if isZero b then qNaN else signed) ∧ fmul b a = fmul a b ∧
      fdiv a b = if isInf b then qNaN else signed)) ∧
  (∀ a b : Word, isFinite a = true → isInf b = true →
    fdiv a b = if fsign a = fsign b then 0x00000000 else 0x80000000) ∧
  (∀ a b : Word, isFinite a = true → isZero b = true →
    fdiv a b = if isZero a then qNaN else if fsign a = fsign b then 0x7F800000 else 0xFF800000) ∧
  (∀ a b : Word, fsub a b = fadd a (b ^^^ 0x80000000)) ∧
  (∀ a : Word, (isNaN a = true → fsqrt a = qNaN) ∧ (isZero a = true → fsqrt a = a) ∧
    (isZero a = false → fsign a = true → fsqrt a = qNaN)) ∧ fsqrt 0x7F800000 = 0x7F800000 ∧
  (∀ a b : Word, isFinite a = true → isFinite b = true →
    (fval a + fval b = 0 → fadd a b = if fsign a = true ∧ fsign b = true then 0x80000000 else 0x00000000) ∧
    fsign (fmul a b) = (fsign a ^^ fsign b) ∧
    (isZero b = false → fsign (fdiv a b) = (fsign a ^^ fsign b)) ∧
    (fsign a = false → fsign (fsqrt a) = false)) ∧
  (∀ b : Word, (fgt 0x7F800000 b = true ↔ isNaN b = false ∧ b ≠ 0x7F800000) ∧ fgt b 0x7F800000 = false ∧
    (fgt b 0xFF800000 = true ↔ isNaN b = false ∧ b ≠ 0xFF800000) ∧ fgt 0xFF800000 b = false) ∧
  ∀ a b : Word, flt a b = fgt b a
end

