-- ==== Sys2Proof/Laws/Binary32.lean ====
section
/-! SUPPORT. Small facts about the binary32 primitives: ranges, comparisons, and the whole-number square root. -/

namespace Sys2Proof.Machine

theorem fbits_lt (a : Word) : fbits a < 2 ^ 31 := Nat.mod_lt _ (by norm_num)

/-- A rounded magnitude is a finite pattern or infinity. -/
theorem roundBits_le (num den : Nat) : roundBits num den ≤ infBits := Nat.min_le_right _ _

theorem fbits_fpack {neg : Bool} {n : Nat} (h : n < 2 ^ 31) : fbits (fpack neg n) = n := by
  cases neg
  · simp only [fbits, fpack, Bool.false_eq_true, if_false, BitVec.toNat_ofNat]; omega
  · simp only [fbits, fpack, if_true, BitVec.toNat_ofNat]; omega

theorem isNaN_rne32 (neg : Bool) (num den : Nat) : isNaN (rne32 neg num den) = false := by
  have h := roundBits_le num den
  rw [isNaN, rne32, fbits_fpack (by unfold infBits at h; omega)]
  simpa using h

/-- A comparison with a NaN is false (R15). -/
theorem fgt_of_isNaN_left {a : Word} (h : isNaN a = true) (b : Word) : fgt a b = false := by simp [fgt, h]

/-- A comparison with a NaN is false (R15). -/
theorem fgt_of_isNaN_right {b : Word} (h : isNaN b = true) (a : Word) : fgt a b = false := by simp [fgt, h]

theorem fgt_irrefl (a : Word) : fgt a a = false := by simp [fgt]

theorem fgt_trans {a b c : Word} (h1 : fgt a b = true) (h2 : fgt b c = true) : fgt a c = true := by
  simp only [fgt, Bool.and_eq_true, Bool.not_eq_true', decide_eq_true_eq] at *
  exact ⟨⟨h1.1.1, h2.1.2⟩, h2.2.trans h1.2⟩

theorem isqrtFrom_spec (n k r : Nat) (h1 : r * r ≤ n) (h2 : n < (r + 2 ^ k) * (r + 2 ^ k)) :
    isqrtFrom n k r * isqrtFrom n k r ≤ n ∧ n < (isqrtFrom n k r + 1) * (isqrtFrom n k r + 1) := by
  induction k generalizing r with
  | zero => simpa [isqrtFrom] using ⟨h1, h2⟩
  | succ k ih =>
    unfold isqrtFrom
    split
    · refine ih _ ‹_› ?_
      rw [show r + 2 ^ k + 2 ^ k = r + 2 ^ (k + 1) by rw [Nat.pow_succ]; omega]
      exact h2
    · exact ih _ h1 (by omega)

/-- `isqrt` is the floor of the square root. -/
theorem isqrt_spec (n : Nat) : isqrt n * isqrt n ≤ n ∧ n < (isqrt n + 1) * (isqrt n + 1) := by
  refine isqrtFrom_spec n _ 0 (by simp) ?_
  have h : n < 2 ^ (Nat.log2 n + 1) := Nat.lt_log2_self
  calc n < 2 ^ (Nat.log2 n + 1) := h
    _ ≤ 2 ^ ((Nat.log2 n / 2 + 1) + (Nat.log2 n / 2 + 1)) := Nat.pow_le_pow_right (by norm_num) (by omega)
    _ = (0 + 2 ^ (Nat.log2 n / 2 + 1)) * (0 + 2 ^ (Nat.log2 n / 2 + 1)) := by rw [Nat.zero_add, ← Nat.pow_add]

/-- The square root of a perfect square. -/
theorem isqrt_sq (r : Nat) : isqrt (r * r) = r := by
  obtain ⟨h1, h2⟩ := isqrt_spec (r * r)
  have h3 : isqrt (r * r) ≤ r := Nat.mul_self_le_mul_self_iff.mp h1
  have h4 : r < isqrt (r * r) + 1 := Nat.mul_self_lt_mul_self_iff.mp h2
  omega

end Sys2Proof.Machine
end

