-- ==== Sys2Proof/Laws/Chord.lean ====
section
/-! SUPPORT. The chord solver's tolerance window: the fast cents decision is the exact one (R112, log 15), and
`near` holds exactly the bins the test admits. -/

namespace Sys2Proof.Machine

theorem reduceDyadic_spec (e n : Nat) :
    (reduceDyadic e n).2 ≤ e ∧ n = (reduceDyadic e n).1 * 2 ^ (e - (reduceDyadic e n).2) := by
  induction e generalizing n with
  | zero => simp [reduceDyadic]
  | succ e ih =>
    unfold reduceDyadic
    split
    · obtain ⟨h1, h2⟩ := ih (n / 2)
      refine ⟨by omega, ?_⟩
      have h3 : n = 2 * (n / 2) := by omega
      rw [show e + 1 - (reduceDyadic e (n / 2)).2 = (e - (reduceDyadic e (n / 2)).2) + 1 by omega, Nat.pow_succ]
      calc n = 2 * (n / 2) := h3
        _ = 2 * ((reduceDyadic e (n / 2)).1 * 2 ^ (e - (reduceDyadic e (n / 2)).2)) := by rw [← h2]
        _ = _ := by ring
    · simp

/-- The exact test does not depend on how the tolerance is written as a dyadic fraction. -/
theorem centsExact_scale (k t m e d : Nat) : centsExact k t (m * 2 ^ d) (e + d) = centsExact k t m e := by
  unfold centsExact
  rw [decide_eq_decide]
  have hexp : 1200 * 2 ^ (e + d) = 1200 * 2 ^ e * 2 ^ d := by rw [Nat.pow_add]; ring
  rw [hexp, Nat.pow_mul k, Nat.pow_mul t, Nat.pow_mul 2 m, ← Nat.mul_pow]
  exact Nat.pow_le_pow_iff_left (by positivity)

/-- An enclosure of `(k/t)^N`: `lo·2^x ≤ (k/t)^N·2^128 ≤ hi·2^x`. -/
structure Encloses (k t N lo hi x : Nat) : Prop where
  low : lo * 2 ^ x * t ^ N ≤ 2 ^ 128 * k ^ N
  high : 2 ^ 128 * k ^ N ≤ hi * 2 ^ x * t ^ N

theorem Encloses.square {k t N lo hi x : Nat} (h : Encloses k t N lo hi x) (c : Nat) :
    Encloses k t (2 * N) (lo * lo / 2 ^ (128 + c)) (hi * hi / 2 ^ (128 + c) + 1) (2 * x + c) := by
  have hk : k ^ (2 * N) = k ^ N * k ^ N := by rw [two_mul, Nat.pow_add]
  have ht : t ^ (2 * N) = t ^ N * t ^ N := by rw [two_mul, Nat.pow_add]
  have hx : 2 ^ 128 * 2 ^ (2 * x + c) = 2 ^ (128 + c) * (2 ^ x * 2 ^ x) := by
    rw [← Nat.pow_add, ← Nat.pow_add, ← Nat.pow_add]; congr 1; omega
  have hp : (0 : Nat) < 2 ^ 128 := by positivity
  constructor
  · refine Nat.le_of_mul_le_mul_left ?_ hp
    have h1 : lo * lo / 2 ^ (128 + c) * 2 ^ (128 + c) ≤ lo * lo := Nat.div_mul_le_self _ _
    calc 2 ^ 128 * (lo * lo / 2 ^ (128 + c) * 2 ^ (2 * x + c) * t ^ (2 * N))
        = lo * lo / 2 ^ (128 + c) * (2 ^ 128 * 2 ^ (2 * x + c)) * t ^ (2 * N) := by ring
      _ = lo * lo / 2 ^ (128 + c) * 2 ^ (128 + c) * (2 ^ x * 2 ^ x * (t ^ N * t ^ N)) := by rw [hx, ht]; ring
      _ ≤ lo * lo * (2 ^ x * 2 ^ x * (t ^ N * t ^ N)) := Nat.mul_le_mul_right _ h1
      _ = (lo * 2 ^ x * t ^ N) * (lo * 2 ^ x * t ^ N) := by ring
      _ ≤ (2 ^ 128 * k ^ N) * (2 ^ 128 * k ^ N) := Nat.mul_le_mul h.low h.low
      _ = 2 ^ 128 * (2 ^ 128 * k ^ (2 * N)) := by rw [hk]; ring
  · refine Nat.le_of_mul_le_mul_left ?_ hp
    have h1 : hi * hi ≤ (hi * hi / 2 ^ (128 + c) + 1) * 2 ^ (128 + c) := by
      have := Nat.lt_div_mul_add (a := hi * hi) (b := 2 ^ (128 + c)) (by positivity)
      rw [Nat.add_mul, Nat.one_mul]; exact this.le
    calc 2 ^ 128 * (2 ^ 128 * k ^ (2 * N))
        = (2 ^ 128 * k ^ N) * (2 ^ 128 * k ^ N) := by rw [hk]; ring
      _ ≤ (hi * 2 ^ x * t ^ N) * (hi * 2 ^ x * t ^ N) := Nat.mul_le_mul h.high h.high
      _ = hi * hi * (2 ^ x * 2 ^ x * (t ^ N * t ^ N)) := by ring
      _ ≤ (hi * hi / 2 ^ (128 + c) + 1) * 2 ^ (128 + c) * (2 ^ x * 2 ^ x * (t ^ N * t ^ N)) :=
        Nat.mul_le_mul_right _ h1
      _ = (hi * hi / 2 ^ (128 + c) + 1) * (2 ^ 128 * 2 ^ (2 * x + c)) * t ^ (2 * N) := by rw [hx, ht]; ring
      _ = _ := by ring

theorem Encloses.decides_true {k t N lo hi x m d : Nat} (h : Encloses k t N lo hi x) (hhi : hi ≤ 2 ^ 129)
    (hm : (x + 1) * 2 ^ d ≤ m) : k ^ (N * 2 ^ d) ≤ 2 ^ m * t ^ (N * 2 ^ d) := by
  have h1 : k ^ N ≤ 2 ^ (x + 1) * t ^ N := by
    refine Nat.le_of_mul_le_mul_left ?_ (show (0 : Nat) < 2 ^ 128 by positivity)
    calc 2 ^ 128 * k ^ N ≤ hi * 2 ^ x * t ^ N := h.high
      _ ≤ 2 ^ 129 * 2 ^ x * t ^ N := Nat.mul_le_mul_right _ (Nat.mul_le_mul_right _ hhi)
      _ = 2 ^ 128 * (2 ^ (x + 1) * t ^ N) := by ring
  calc k ^ (N * 2 ^ d) = (k ^ N) ^ 2 ^ d := Nat.pow_mul ..
    _ ≤ (2 ^ (x + 1) * t ^ N) ^ 2 ^ d := Nat.pow_le_pow_left h1 _
    _ = 2 ^ ((x + 1) * 2 ^ d) * t ^ (N * 2 ^ d) := by rw [Nat.mul_pow, ← Nat.pow_mul, ← Nat.pow_mul]
    _ ≤ 2 ^ m * t ^ (N * 2 ^ d) := Nat.mul_le_mul_right _ (Nat.pow_le_pow_right (by norm_num) hm)

theorem Encloses.decides_false {k t N lo hi x m d : Nat} (h : Encloses k t N lo hi x) (ht : 0 < t)
    (hlo : 2 ^ 128 ≤ lo) (hm : m < x * 2 ^ d) : ¬ k ^ (N * 2 ^ d) ≤ 2 ^ m * t ^ (N * 2 ^ d) := by
  have h1 : 2 ^ x * t ^ N ≤ k ^ N := by
    refine Nat.le_of_mul_le_mul_left ?_ (show (0 : Nat) < 2 ^ 128 by positivity)
    calc 2 ^ 128 * (2 ^ x * t ^ N) = 2 ^ 128 * 2 ^ x * t ^ N := by ring
      _ ≤ lo * 2 ^ x * t ^ N := Nat.mul_le_mul_right _ (Nat.mul_le_mul_right _ hlo)
      _ ≤ 2 ^ 128 * k ^ N := h.low
  rw [Nat.not_le]
  calc 2 ^ m * t ^ (N * 2 ^ d) < 2 ^ (x * 2 ^ d) * t ^ (N * 2 ^ d) :=
        Nat.mul_lt_mul_of_pos_right (Nat.pow_lt_pow_right (by norm_num) hm) (Nat.pow_pos ht)
    _ = (2 ^ x * t ^ N) ^ 2 ^ d := by rw [Nat.mul_pow, ← Nat.pow_mul, ← Nat.pow_mul]
    _ ≤ (k ^ N) ^ 2 ^ d := Nat.pow_le_pow_left h1 _
    _ = k ^ (N * 2 ^ d) := (Nat.pow_mul ..).symm

/-- What the squaring answers is the exact answer. -/
theorem centsBySquaring_sound {k t m d N lo hi x : Nat} {b : Bool} (ht : 0 < t) (h : Encloses k t N lo hi x)
    (hb : centsBySquaring m d lo hi x = some b) :
    b = decide (k ^ (N * 2 ^ d) ≤ 2 ^ m * t ^ (N * 2 ^ d)) := by
  induction d generalizing N lo hi x with
  | zero =>
    unfold centsBySquaring at hb
    split at hb
    · rename_i hc
      cases hb
      exact (decide_eq_true (h.decides_true hc.1 (by simpa using hc.2))).symm
    · split at hb
      · rename_i hc
        cases hb
        exact (decide_eq_false (h.decides_false ht hc.1 (by simpa using hc.2))).symm
      · exact absurd hb (by simp)
  | succ d ih =>
    unfold centsBySquaring at hb
    split at hb
    · rename_i hc
      cases hb
      exact (decide_eq_true (h.decides_true hc.1 hc.2)).symm
    · split at hb
      · rename_i hc
        cases hb
        exact (decide_eq_false (h.decides_false ht hc.1 hc.2)).symm
      · rw [ih (h.square _) hb, show 2 * N * 2 ^ d = N * 2 ^ (d + 1) by rw [Nat.pow_succ]; ring]

theorem centsFast_encloses {k t : Nat} (ht : 0 < t) (c : Nat) :
    Encloses k t 1200 (k ^ 1200 * 2 ^ 128 / t ^ 1200 / 2 ^ c) (k ^ 1200 * 2 ^ 128 / t ^ 1200 / 2 ^ c + 1) c := by
  generalize hq : k ^ 1200 * 2 ^ 128 / t ^ 1200 = q
  have htp : 0 < t ^ 1200 := Nat.pow_pos ht
  constructor
  · calc q / 2 ^ c * 2 ^ c * t ^ 1200 ≤ q * t ^ 1200 := Nat.mul_le_mul_right _ (Nat.div_mul_le_self _ _)
      _ ≤ k ^ 1200 * 2 ^ 128 := hq ▸ Nat.div_mul_le_self _ _
      _ = 2 ^ 128 * k ^ 1200 := Nat.mul_comm _ _
  · have h1 : k ^ 1200 * 2 ^ 128 < (q + 1) * t ^ 1200 := by
      have := Nat.lt_div_mul_add (a := k ^ 1200 * 2 ^ 128) (b := t ^ 1200) htp
      rw [hq] at this
      rw [Nat.add_mul, Nat.one_mul]; exact this
    have h2 : q + 1 ≤ (q / 2 ^ c + 1) * 2 ^ c := by
      have := Nat.lt_div_mul_add (a := q) (b := 2 ^ c) (by positivity)
      rw [Nat.add_mul, Nat.one_mul]; exact this
    calc 2 ^ 128 * k ^ 1200 = k ^ 1200 * 2 ^ 128 := Nat.mul_comm _ _
      _ ≤ (q + 1) * t ^ 1200 := h1.le
      _ ≤ (q / 2 ^ c + 1) * 2 ^ c * t ^ 1200 := Nat.mul_le_mul_right _ h2

/-- Reducing the tolerance to lowest terms does not change the exact test. -/
theorem centsExact_reduce (k t tol : Nat) :
    centsExact k t (reduceDyadic 149 tol).1 (reduceDyadic 149 tol).2 = centsExact k t tol 149 := by
  obtain ⟨h1, h2⟩ := reduceDyadic_spec 149 tol
  generalize reduceDyadic 149 tol = f at h1 h2
  rw [h2, ← centsExact_scale k t f.1 f.2 (149 - f.2), Nat.add_sub_cancel' h1]

/-- A ratio not above 1 is within every tolerance. -/
theorem centsExact_of_le {k t : Nat} (h : k ≤ t) (m e : Nat) : centsExact k t m e = true := by
  refine decide_eq_true ?_
  calc k ^ (1200 * 2 ^ e) ≤ t ^ (1200 * 2 ^ e) := Nat.pow_le_pow_left h _
    _ ≤ 2 ^ m * t ^ (1200 * 2 ^ e) := Nat.le_mul_of_pos_left _ (by positivity)

/-- A tolerance of `log2 k + 1` octaves admits bin `k` for every target. -/
theorem centsExact_of_wide {k t m e : Nat} (ht : 0 < t) (h : 1200 * 2 ^ e * (Nat.log2 k + 1) ≤ m) :
    centsExact k t m e = true := by
  refine decide_eq_true ?_
  have hk : k < 2 ^ (Nat.log2 k + 1) := Nat.lt_log2_self
  calc k ^ (1200 * 2 ^ e) ≤ (2 ^ (Nat.log2 k + 1)) ^ (1200 * 2 ^ e) := Nat.pow_le_pow_left hk.le _
    _ = 2 ^ (1200 * 2 ^ e * (Nat.log2 k + 1)) := by rw [← Nat.pow_mul, Nat.mul_comm]
    _ ≤ 2 ^ m := Nat.pow_le_pow_right (by norm_num) h
    _ ≤ 2 ^ m * t ^ (1200 * 2 ^ e) := Nat.le_mul_of_pos_right _ (Nat.pow_pos ht)

/-- The cents decision is the exact test `(k/t)^1200 ≤ 2^TOL`, TOL in units of 2^-149 (R112). -/
theorem centsLe_eq_exact {k t : Nat} (ht : 0 < t) (tol : Nat) : centsLe k t tol = centsExact k t tol 149 := by
  rw [← centsExact_reduce]
  unfold centsLe
  generalize reduceDyadic 149 tol = f
  dsimp only
  split
  · exact (centsExact_of_le ‹_› _ _).symm
  split
  · exact (centsExact_of_wide ht ‹_›).symm
  split
  · rfl
  split
  · rename_i b hb
    exact centsBySquaring_sound ht (centsFast_encloses ht _) hb
  · rfl

/-- A bin between the target and a bin in tolerance is in tolerance. -/
theorem inTolerance_between {l : Latched} {t k j : Nat} (ht : 0 < t) (h : inTolerance l t k = true)
    (hj : (t ≤ j ∧ j ≤ k) ∨ (k ≤ j ∧ j ≤ t)) (hk : 0 < k) : inTolerance l t j = true := by
  have hj0 : 0 < j := by omega
  cases hu : l.hunit with
  | hz =>
    simp only [inTolerance, hu, decide_eq_true_eq] at h ⊢
    refine le_trans (Nat.mul_le_mul_right _ (Nat.mul_le_mul_right _ ?_)) h
    omega
  | cents =>
    simp only [inTolerance, hu, Bool.and_eq_true] at h ⊢
    rw [centsLe_eq_exact ht, centsLe_eq_exact hk] at h
    rw [centsLe_eq_exact ht, centsLe_eq_exact hj0]
    rcases hj with hj | hj
    · refine ⟨decide_eq_true ?_, centsExact_of_le hj.1 _ _⟩
      exact (Nat.pow_le_pow_left hj.2 _).trans (of_decide_eq_true h.1)
    · refine ⟨centsExact_of_le hj.2 _ _, decide_eq_true ?_⟩
      exact (of_decide_eq_true h.2).trans (Nat.mul_le_mul_left _ (Nat.pow_le_pow_left hj.1 _))

/-- The target bin is always in its own window (R112). -/
theorem inTolerance_self (l : Latched) (t : Nat) : inTolerance l t t = true := by
  unfold inTolerance
  cases l.hunit <;> simp [centsLe]

theorem reachUp_spec (p : Nat → Bool) (n k : Nat) :
    k ≤ reachUp p n k ∧ reachUp p n k ≤ k + n ∧ (∀ j, k < j → j ≤ reachUp p n k → p j = true) ∧
      (reachUp p n k < k + n → p (reachUp p n k + 1) = false) := by
  induction n generalizing k with
  | zero => simp only [reachUp]; exact ⟨by omega, by omega, by intros; omega, by intros; omega⟩
  | succ n ih =>
    unfold reachUp
    split
    · rename_i hp
      obtain ⟨h1, h2, h3, h4⟩ := ih (k + 1)
      refine ⟨by omega, by omega, ?_, fun h => h4 (by omega)⟩
      intro j hj1 hj2
      rcases Nat.lt_or_ge (k + 1) j with h | h
      · exact h3 j h hj2
      · rwa [show j = k + 1 by omega]
    · rename_i hp
      exact ⟨by omega, by omega, by intros; omega, fun _ => by simpa using hp⟩

theorem reachDown_spec (p : Nat → Bool) (n k : Nat) (hn : n ≤ k) :
    reachDown p n k ≤ k ∧ k - n ≤ reachDown p n k ∧ (∀ j, j < k → reachDown p n k ≤ j → p j = true) ∧
      (k - n < reachDown p n k → p (reachDown p n k - 1) = false) := by
  induction n generalizing k with
  | zero => simp only [reachDown]; exact ⟨by omega, by omega, by intros; omega, by intros; omega⟩
  | succ n ih =>
    unfold reachDown
    split
    · rename_i hp
      obtain ⟨h1, h2, h3, h4⟩ := ih (k - 1) (by omega)
      refine ⟨by omega, by omega, ?_, fun h => h4 (by omega)⟩
      intro j hj1 hj2
      rcases Nat.lt_or_ge j (k - 1) with h | h
      · exact h3 j h hj2
      · rwa [show j = k - 1 by omega]
    · rename_i hp
      exact ⟨by omega, by omega, by intros; omega, fun _ => by simpa using hp⟩

/-- The window holds exactly the bins 1 … B-1 that the test admits (R112). -/
theorem mem_near {l : Latched} {t k : Nat} (h1 : 1 ≤ t) (h2 : t ≤ l.bins - 1) :
    k ∈ near l t ↔ 1 ≤ k ∧ k ≤ l.bins - 1 ∧ inTolerance l t k = true := by
  obtain ⟨u1, u2, u3, u4⟩ := reachUp_spec (inTolerance l t) (l.bins - 1 - t) t
  obtain ⟨d1, d2, d3, d4⟩ := reachDown_spec (inTolerance l t) (t - 1) t (by omega)
  change t ≤ nearHigh l t at u1
  change nearHigh l t ≤ _ at u2
  change ∀ j, t < j → j ≤ nearHigh l t → _ at u3
  change nearHigh l t < _ → inTolerance l t (nearHigh l t + 1) = false at u4
  change nearLow l t ≤ t at d1
  change _ ≤ nearLow l t at d2
  change ∀ j, j < t → nearLow l t ≤ j → _ at d3
  change _ < nearLow l t → inTolerance l t (nearLow l t - 1) = false at d4
  have hmem : k ∈ near l t ↔ nearLow l t ≤ k ∧ k ≤ nearHigh l t := by
    simp only [near, List.mem_range'_1]; omega
  rw [hmem]
  constructor
  · rintro ⟨ha, hb⟩
    refine ⟨by omega, by omega, ?_⟩
    rcases Nat.lt_trichotomy k t with h | h | h
    · exact d3 k h ha
    · rw [h]; exact inTolerance_self l t
    · exact u3 k h hb
  · rintro ⟨ha, hb, hk⟩
    constructor
    · by_contra hc
      have := inTolerance_between (j := nearLow l t - 1) h1 hk (by omega) ha
      rw [d4 (by omega)] at this
      exact absurd this (by simp)
    · by_contra hc
      have := inTolerance_between (j := nearHigh l t + 1) h1 hk (by omega) ha
      rw [u4 (by omega)] at this
      exact absurd this (by simp)

@[simp] theorem length_mapBins (lo hi : Nat) (f : Word → Word) (xs : List Word) :
    (mapBins lo hi f xs).length = xs.length := by
  simp only [mapBins, List.length_append, List.length_map, List.length_take, List.length_drop]; omega

/-- A bin after a function was applied to the bins `lo … hi`. -/
theorem getElem_mapBins (lo hi : Nat) (f : Word → Word) (xs : List Word) {k : Nat} (hk : k < xs.length) :
    (mapBins lo hi f xs)[k]'(by simpa using hk) = if lo ≤ k ∧ k ≤ hi then f xs[k] else xs[k] := by
  simp only [mapBins, List.getElem_append, List.length_append, List.length_map, List.length_take,
    List.length_drop, List.getElem_map, List.getElem_take, List.getElem_drop]
  split
  · split
    · rw [if_neg (by omega)]
    · rw [if_pos (by omega)]; congr 2; omega
  · rw [if_neg (by omega)]; congr 1; omega

/-- An argmax scan answers a bin it saw or the best one it started from. -/
theorem argmaxScan_range (xs : List Word) (k best : Nat) (top : Word) :
    argmaxScan xs k best top = best ∨ (k ≤ argmaxScan xs k best top ∧ argmaxScan xs k best top < k + xs.length) := by
  induction xs generalizing k best top with
  | nil => exact .inl rfl
  | cons v vs ih =>
    unfold argmaxScan
    simp only [List.length_cons]
    split
    · rcases ih (k + 1) k v with h | h
      · exact .inr (by omega)
      · exact .inr (by omega)
    · rcases ih (k + 1) best top with h | h
      · exact .inl h
      · exact .inr (by omega)

/-- The argmax is a bin of 1 … B-1 (R106, R111). -/
theorem argmax_range {xs : List Word} (h : 2 ≤ xs.length) : 1 ≤ argmax xs ∧ argmax xs < xs.length := by
  rcases argmaxScan_range (xs.drop 2) 2 1 (xs.getD 1 0) with h1 | h1
  · exact ⟨by unfold argmax; omega, by unfold argmax; omega⟩
  · simp only [List.length_drop] at h1
    exact ⟨by unfold argmax; omega, by unfold argmax; omega⟩

@[simp] theorem length_strip (l : Latched) (k : Nat) (scr : List Word) : (strip l k scr).length = scr.length := by
  simp [strip, mapNear]

@[simp] theorem length_subtractHarmonics (l : Latched) (k : Nat) (a : Word) (scr : List Word) :
    (subtractHarmonics l k a scr).length = scr.length := by
  unfold subtractHarmonics
  generalize List.range' 2 ((l.bins - 1) / k - 1) = hs
  induction hs generalizing scr with
  | nil => rfl
  | cons h hs ih => rw [List.foldl_cons, ih]; simp [mapNear]

/-- The loop emits at most one candidate for each iteration it may run (R115, R116). -/
theorem solveLoop_bounds (l : Latched) (n : Nat) (scr : List Word) (cs : List Cand) :
    (solveLoop l n scr cs).scr.length = scr.length ∧ (solveLoop l n scr cs).cands.length ≤ cs.length + n := by
  induction n generalizing scr cs with
  | zero => exact ⟨rfl, Nat.le_refl _⟩
  | succ n ih =>
    unfold solveLoop
    dsimp only
    split
    · exact ⟨rfl, Nat.le_add_right _ _⟩
    · split
      · obtain ⟨h1, h2⟩ := ih (strip l (argmax scr) scr) cs
        exact ⟨by simpa using h1, by omega⟩
      · rename_i h1 h2
        obtain ⟨h3, h4⟩ := ih (subtractHarmonics l (argmax scr) (scr.getD (argmax scr) 0) (strip l (argmax scr) scr))
          (cs ++ [candidate l (argmax scr) (scr.getD (argmax scr) 0)])
        refine ⟨by simpa using h3, ?_⟩
        simp only [List.length_append, List.length_cons, List.length_nil] at h4
        omega

/-- SOLVE's scratch has the spectrum's length, and at most MAXN candidates are emitted (R115). -/
theorem solve_bounds (l : Latched) (gated : Bool) (wht : List Word) :
    (solve l gated wht).scr.length = wht.length ∧ (solve l gated wht).cands.length ≤ l.maxn.val := by
  unfold solve
  split
  · simp
  · simpa using solveLoop_bounds l l.maxn.val wht []

end Sys2Proof.Machine
end

