-- ==== Sys2Proof/Laws/Memory.lean ====
section
/-! SUPPORT. What a memory read gives after a write, for any list of cells, and that every write keeps the canonical
form `Memory.wf`. Callers cite `readByte_writeBytes`, `readWord_writeWords`, `readWords_writeWords` and `writeWords_wf`
and never unfold the walk. -/

namespace Sys2Proof.Machine

open Host (Cell)

theorem seek_nil (a : Nat) : seek a [] = [] := rfl

theorem seek_cons_lt {a : Nat} {c : Cell} (cs : List Cell) (h : c.1 < a) : seek a (c :: cs) = seek a cs := by
  simp [seek, h]

theorem seek_cons_ge {a : Nat} {c : Cell} (cs : List Cell) (h : a ≤ c.1) : seek a (c :: cs) = c :: cs := by
  simp [seek, Nat.not_lt.mpr h]

/-- Seeking further from a place already sought is seeking from the start. -/
theorem seek_seek {a b : Nat} (h : a ≤ b) (cs : List Cell) : seek b (seek a cs) = seek b cs := by
  induction cs with
  | nil => rfl
  | cons c cs ih =>
    by_cases hc : c.1 < a
    · rw [seek_cons_lt cs hc, seek_cons_lt cs (by omega), ih]
    · rw [seek_cons_ge cs (by omega)]

/-- Cells below the sought address in front change nothing. -/
theorem seek_append_lt {b : Nat} {xs : List Cell} (ys : List Cell) (h : ∀ c ∈ xs, c.1 < b) :
    seek b (xs ++ ys) = seek b ys := by
  induction xs with
  | nil => rfl
  | cons c cs ih =>
    rw [List.cons_append, seek_cons_lt _ (h c (by simp)), ih fun d hd => h d (by simp [hd])]

theorem mem_seek {a : Nat} {cs : List Cell} {c : Cell} (h : c ∈ seek a cs) : c ∈ cs :=
  (List.dropWhile_sublist _).subset h

theorem head_seek {a : Nat} {cs : List Cell} {c : Cell} (h : (seek a cs).head? = some c) : a ≤ c.1 := by
  induction cs with
  | nil => simp [seek_nil] at h
  | cons d ds ih =>
    by_cases hd : d.1 < a
    · exact ih (by rwa [seek_cons_lt ds hd] at h)
    · rw [seek_cons_ge ds (by omega)] at h
      simp only [List.head?_cons, Option.some.injEq] at h
      subst h; omega

/-- A list whose first cell is above an address holds nothing at it. -/
theorem headByte_seek_of_head_gt {fill : Fill} {a : Nat} {cs : List Cell}
    (h : ∀ c, cs.head? = some c → a < c.1) : headByte fill a (seek a cs) = fill.byte a := by
  cases cs with
  | nil => rfl
  | cons c cs =>
    have hc := h c rfl
    rw [seek_cons_ge cs (by omega), headByte, if_neg (by omega)]

theorem head_byteCells_append {fill : Fill} {vs : List Byte} {l a : Nat} {rest : List Cell} {c : Cell}
    (hl : l ≤ a) (hr : ∀ d, rest.head? = some d → l ≤ d.1)
    (h : (byteCells fill a vs ++ rest).head? = some c) : l ≤ c.1 := by
  induction vs generalizing a with
  | nil => exact hr c h
  | cons v vs ih =>
    by_cases hv : fill.lists v
    · simp only [byteCells, hv, if_true, List.cons_append, List.head?_cons, Option.some.injEq] at h
      subst h; exact hl
    · simp only [byteCells, hv, Bool.false_eq_true, if_false] at h
      exact ih (by omega) h

theorem mem_byteCells {fill : Fill} {vs : List Byte} {a : Nat} {c : Cell} (h : c ∈ byteCells fill a vs) :
    a ≤ c.1 ∧ c.1 < a + vs.length ∧ fill.lists c.2 = true := by
  induction vs generalizing a with
  | nil => simp [byteCells] at h
  | cons v vs ih =>
    by_cases hv : fill.lists v
    · simp only [byteCells, hv, if_true, List.mem_cons] at h
      rcases h with rfl | h
      · exact ⟨Nat.le_refl _, by simp, hv⟩
      · have := ih h; exact ⟨by omega, by simp only [List.length_cons]; omega, this.2.2⟩
    · simp only [byteCells, hv, Bool.false_eq_true, if_false] at h
      have := ih h; exact ⟨by omega, by simp only [List.length_cons]; omega, this.2.2⟩

/-- A byte that needs no cell is what the unlisted address holds. -/
theorem Fill.byte_of_not_lists {fill : Fill} {v : Byte} (h : ¬ fill.lists v = true) (a : Nat) : fill.byte a = v := by
  cases fill with
  | arrays d => simp [Fill.lists] at h
  | staging d => simp [Fill.lists] at h
  | zero =>
    have : v = 0 := by simpa [Fill.lists] using h
    simp [Fill.byte, this]

/-- The byte read from freshly laid cells is the byte laid down. -/
theorem headByte_seek_byteCells {fill : Fill} {vs : List Byte} {a : Nat} {rest : List Cell}
    (hr : ∀ d, rest.head? = some d → a + vs.length ≤ d.1) {i : Nat} (hi : i < vs.length) :
    headByte fill (a + i) (seek (a + i) (byteCells fill a vs ++ rest)) = vs[i] := by
  induction vs generalizing a i with
  | nil => simp at hi
  | cons v vs ih =>
    have hr' : ∀ d, rest.head? = some d → a + 1 + vs.length ≤ d.1 := by
      intro d hd; have := hr d hd; simp only [List.length_cons] at this; omega
    have hrest : ∀ d, (byteCells fill (a + 1) vs ++ rest).head? = some d → a < d.1 := by
      intro d hd
      exact head_byteCells_append (l := a + 1) (by omega) (fun e he => by have := hr' e he; omega) hd
    by_cases hv : fill.lists v
    · simp only [byteCells, hv, if_true, List.cons_append]
      cases i with
      | zero => rw [Nat.add_zero, seek_cons_ge _ (Nat.le_refl a), headByte, if_pos rfl]; rfl
      | succ i =>
        rw [seek_cons_lt _ (by simp), show a + (i + 1) = a + 1 + i by omega,
          ih hr' (by simpa using hi)]
        rfl
    · simp only [byteCells, hv, Bool.false_eq_true, if_false]
      cases i with
      | zero => rw [Nat.add_zero, headByte_seek_of_head_gt hrest, Fill.byte_of_not_lists hv]; rfl
      | succ i =>
        rw [show a + (i + 1) = a + 1 + i by omega, ih hr' (by simpa using hi)]
        rfl

theorem headByte_seek_takeWhile {fill : Fill} {a b : Nat} (cs : List Cell) {rest : List Cell} (hb : b < a)
    (hr : ∀ d, rest.head? = some d → a ≤ d.1) :
    headByte fill b (seek b (cs.takeWhile (fun c => decide (c.1 < a)) ++ rest)) = headByte fill b (seek b cs) := by
  induction cs with
  | nil => exact headByte_seek_of_head_gt fun c hc => by have := hr c hc; omega
  | cons c cs ih =>
    by_cases hc : c.1 < a
    · simp only [List.takeWhile_cons, hc, decide_true, if_true, List.cons_append]
      by_cases hcb : c.1 < b
      · rw [seek_cons_lt _ hcb, seek_cons_lt _ hcb, ih]
      · rw [seek_cons_ge _ (by omega), seek_cons_ge _ (by omega)]; rfl
    · simp only [List.takeWhile_cons, hc, decide_false, Bool.false_eq_true, if_false, List.nil_append]
      rw [headByte_seek_of_head_gt fun d hd => by have := hr d hd; omega,
        seek_cons_ge cs (by omega), headByte, if_neg (by omega)]

/-- Reading one byte after a write of bytes. -/
theorem Memory.readByte_writeBytes (m : Memory) (a : Nat) (vs : List Byte) (b : Nat) :
    (m.writeBytes a vs).readByte b =
      if h : a ≤ b ∧ b < a + vs.length then vs[b - a]'(by omega) else m.readByte b := by
  have hrest : ∀ d, (seek (a + vs.length) m.cells).head? = some d → a + vs.length ≤ d.1 :=
    fun d hd => head_seek hd
  have hpre : ∀ c ∈ m.cells.takeWhile (fun c => decide (c.1 < a)), c.1 < a := by
    intro c hc; simpa using List.mem_takeWhile_imp hc
  simp only [Memory.readByte, Memory.writeBytes, List.append_assoc]
  by_cases hlo : b < a
  · rw [dif_neg (by omega)]
    exact headByte_seek_takeWhile m.cells hlo fun d hd =>
      head_byteCells_append (Nat.le_refl a) (fun e he => by have := hrest e he; omega) hd
  · rw [seek_append_lt _ fun c hc => by have := hpre c hc; omega]
    by_cases hhi : b < a + vs.length
    · rw [dif_pos ⟨by omega, hhi⟩]
      have := headByte_seek_byteCells (fill := m.fill) hrest (i := b - a) (by omega)
      rwa [show a + (b - a) = b by omega] at this
    · rw [dif_neg (by omega), seek_append_lt _ fun c hc => by have := (mem_byteCells hc).2.1; omega,
        seek_seek (by omega)]

@[simp] theorem Memory.writeBytes_fill (m : Memory) (a : Nat) (vs : List Byte) :
    (m.writeBytes a vs).fill = m.fill := rfl

@[simp] theorem Memory.writeWords_fill (m : Memory) (a : Nat) (ws : List Word) :
    (m.writeWords a ws).fill = m.fill := rfl

theorem pairwise_byteCells (fill : Fill) (a : Nat) (vs : List Byte) :
    (byteCells fill a vs).Pairwise (fun c d => c.1 < d.1) := by
  induction vs generalizing a with
  | nil => exact List.Pairwise.nil
  | cons v vs ih =>
    by_cases hv : fill.lists v
    · simp only [byteCells, hv, if_true]
      exact List.Pairwise.cons (fun c hc => (mem_byteCells hc).1) (ih (a + 1))
    · simp only [byteCells, hv, Bool.false_eq_true, if_false]; exact ih (a + 1)

theorem le_of_mem_seek {a : Nat} {cs : List Cell} (hp : cs.Pairwise (fun c d => c.1 < d.1)) {c : Cell}
    (h : c ∈ seek a cs) : a ≤ c.1 := by
  induction cs with
  | nil => simp [seek_nil] at h
  | cons d ds ih =>
    rw [List.pairwise_cons] at hp
    by_cases hd : d.1 < a
    · exact ih hp.2 (by rwa [seek_cons_lt ds hd] at h)
    · rw [seek_cons_ge ds (by omega), List.mem_cons] at h
      rcases h with rfl | h
      · omega
      · have := hp.1 c h; omega

/-- A write of bytes keeps the canonical form. -/
theorem Memory.writeBytes_wf {m : Memory} (h : m.wf) (a : Nat) (vs : List Byte) : (m.writeBytes a vs).wf := by
  obtain ⟨hp, hl⟩ := h
  have hpre : ∀ c ∈ m.cells.takeWhile (fun c => decide (c.1 < a)), c.1 < a := by
    intro c hc; simpa using List.mem_takeWhile_imp hc
  refine ⟨?_, ?_⟩
  · simp only [Memory.writeBytes]
    rw [List.pairwise_append, List.pairwise_append]
    refine ⟨⟨hp.sublist (List.takeWhile_sublist _), pairwise_byteCells _ _ _, ?_⟩,
      hp.sublist (List.dropWhile_sublist _), ?_⟩
    · intro c hc d hd
      have := hpre c hc; have := (mem_byteCells hd).1; omega
    · intro c hc d hd
      have hd' := le_of_mem_seek hp hd
      rcases List.mem_append.mp hc with hc | hc
      · have := hpre c hc; omega
      · have := (mem_byteCells hc).2.1; omega
  · intro c hc
    simp only [Memory.writeBytes, List.mem_append] at hc
    rcases hc with (hc | hc) | hc
    · exact hl c ((List.takeWhile_sublist _).subset hc)
    · exact (mem_byteCells hc).2.2
    · exact hl c (mem_seek hc)

/-- A write of words keeps the canonical form. -/
theorem Memory.writeWords_wf {m : Memory} (h : m.wf) (a : Nat) (ws : List Word) : (m.writeWords a ws).wf :=
  Memory.writeBytes_wf h a _

theorem Memory.zeroed_wf : Memory.zeroed.wf := ⟨List.Pairwise.nil, by simp [Memory.zeroed]⟩

theorem Memory.unspecifiedArrays_wf (n : Nat) : (Memory.unspecifiedArrays n).wf :=
  ⟨List.Pairwise.nil, by simp [Memory.unspecifiedArrays]⟩

theorem Memory.unspecifiedStaging_wf (n : Nat) : (Memory.unspecifiedStaging n).wf :=
  ⟨List.Pairwise.nil, by simp [Memory.unspecifiedStaging]⟩

/-- A word is put together again from its bytes. -/
theorem wordOfBytes_bytes (w : Word) :
    wordOfBytes (w.extractLsb' 0 8) (w.extractLsb' 8 8) (w.extractLsb' 16 8) (w.extractLsb' 24 8) = w := by
  apply BitVec.eq_of_getLsbD_eq
  intro i hi
  simp only [wordOfBytes, BitVec.getLsbD_append, BitVec.getLsbD_extractLsb']
  by_cases h1 : i < 8
  · simp [h1]
  by_cases h2 : i < 16
  · simp [h1, show i - 8 < 8 by omega, show 8 + (i - 8) = i by omega]
  by_cases h3 : i < 24
  · simp [h1, show ¬ i - 8 < 8 by omega, show i - 8 - 8 < 8 by omega, show 16 + (i - 8 - 8) = i by omega]
  · simp [h1, show ¬ i - 8 < 8 by omega, show ¬ i - 8 - 8 < 8 by omega, show i - 8 - 8 - 8 < 8 by omega,
      show 24 + (i - 8 - 8 - 8) = i by omega]

@[simp] theorem length_flatMap_bytesOfWord (ws : List Word) : (ws.flatMap bytesOfWord).length = 4 * ws.length := by
  induction ws with
  | nil => rfl
  | cons w ws ih => simp [List.flatMap_cons, ih, bytesOfWord]; omega

theorem flatMap_bytesOfWord_get (ws : List Word) {i : Nat} (hi : i < ws.length) {j : Nat} (hj : j < 4) :
    (ws.flatMap bytesOfWord)[4 * i + j]? = some (ws[i].extractLsb' (8 * j) 8) := by
  induction ws generalizing i with
  | nil => simp at hi
  | cons w ws ih =>
    cases i with
    | zero =>
      have hj' : j = 0 ∨ j = 1 ∨ j = 2 ∨ j = 3 := by omega
      rcases hj' with rfl | rfl | rfl | rfl <;> simp [List.flatMap_cons, bytesOfWord]
    | succ i =>
      rw [List.flatMap_cons, List.getElem?_append_right (by simp [bytesOfWord]; omega)]
      have : 4 * (i + 1) + j - (bytesOfWord w).length = 4 * i + j := by simp [bytesOfWord]; omega
      rw [this, ih (by simpa using hi)]
      simp

theorem Memory.readByte_writeWords_of_lt (m : Memory) {a : Nat} (ws : List Word) {b : Nat} (h : b < a) :
    (m.writeWords a ws).readByte b = m.readByte b := by
  rw [Memory.writeWords, Memory.readByte_writeBytes, dif_neg (by omega)]

theorem Memory.readByte_writeWords_of_ge (m : Memory) {a : Nat} (ws : List Word) {b : Nat}
    (h : a + 4 * ws.length ≤ b) : (m.writeWords a ws).readByte b = m.readByte b := by
  rw [Memory.writeWords, Memory.readByte_writeBytes, dif_neg (by rw [length_flatMap_bytesOfWord]; omega)]

/-- Every byte outside the stored words reads as before. -/
theorem Memory.readByte_writeWords_outside (m : Memory) {a : Nat} (ws : List Word) {b : Nat}
    (h : b < a ∨ a + 4 * ws.length ≤ b) : (m.writeWords a ws).readByte b = m.readByte b :=
  h.elim (m.readByte_writeWords_of_lt ws) (m.readByte_writeWords_of_ge ws)

/-- The word read where word `i` was stored. -/
theorem Memory.readWord_writeWords (m : Memory) (a : Nat) (ws : List Word) {i : Nat} (hi : i < ws.length) :
    (m.writeWords a ws).readWord (a + 4 * i) = ws[i] := by
  have key : ∀ j, j < 4 → (m.writeWords a ws).readByte (a + 4 * i + j) = ws[i].extractLsb' (8 * j) 8 := by
    intro j hj
    rw [Memory.writeWords, Memory.readByte_writeBytes, dif_pos ⟨by omega, by rw [length_flatMap_bytesOfWord]; omega⟩]
    have h := flatMap_bytesOfWord_get ws hi hj
    have hlt : 4 * i + j < (ws.flatMap bytesOfWord).length := by rw [length_flatMap_bytesOfWord]; omega
    rw [List.getElem?_eq_getElem hlt, Option.some.injEq] at h
    simpa [show a + 4 * i + j - a = 4 * i + j by omega] using h
  rw [Memory.readWord, key 1 (by omega), key 2 (by omega), key 3 (by omega)]
  have h0 := key 0 (by omega)
  rw [Nat.add_zero] at h0
  rw [h0]
  exact wordOfBytes_bytes _

/-- A word outside the stored words reads as before. -/
theorem Memory.readWord_writeWords_outside (m : Memory) {a : Nat} (ws : List Word) {b : Nat}
    (h : b + 4 ≤ a ∨ a + 4 * ws.length ≤ b) : (m.writeWords a ws).readWord b = m.readWord b := by
  simp only [Memory.readWord]
  rw [m.readByte_writeWords_outside ws (b := b) (by omega), m.readByte_writeWords_outside ws (b := b + 1) (by omega),
    m.readByte_writeWords_outside ws (b := b + 2) (by omega), m.readByte_writeWords_outside ws (b := b + 3) (by omega)]

theorem readRun_four (m : Memory) (n a : Nat) {cs : List Cell} (h : ∀ b, a ≤ b → seek b cs = seek b m.cells) :
    wordsOfBytes (readRun m.fill (4 * n) a cs) = (List.range' a n 4).map m.readWord := by
  induction n generalizing a cs with
  | zero => rfl
  | succ n ih =>
    rw [show 4 * (n + 1) = 4 * n + 1 + 1 + 1 + 1 by omega]
    simp only [readRun, wordsOfBytes, List.range'_succ, List.map_cons]
    rw [seek_seek (by omega), seek_seek (by omega), seek_seek (by omega), h a (by omega), h (a + 1) (by omega),
      h (a + 1 + 1) (by omega), h (a + 1 + 1 + 1) (by omega)]
    rw [ih (a + 1 + 1 + 1 + 1) fun b hb => by rw [seek_seek (by omega)]]
    rfl

/-- A run of words is the words of its addresses. -/
theorem Memory.readWords_eq (m : Memory) (a n : Nat) : m.readWords a n = (List.range' a n 4).map m.readWord :=
  readRun_four m n a fun _ _ => rfl

@[simp] theorem Memory.length_readWords (m : Memory) (a n : Nat) : (m.readWords a n).length = n := by
  simp [Memory.readWords_eq]

theorem Memory.getElem_readWords (m : Memory) (a n : Nat) {i : Nat} (hi : i < (m.readWords a n).length) :
    (m.readWords a n)[i] = m.readWord (a + 4 * i) := by
  simp [Memory.readWords_eq]

/-- Reading back what was stored. -/
theorem Memory.readWords_writeWords (m : Memory) (a : Nat) (ws : List Word) :
    (m.writeWords a ws).readWords a ws.length = ws := by
  apply List.ext_getElem (by simp)
  intro i h1 h2
  rw [Memory.getElem_readWords, Memory.readWord_writeWords m a ws h2]

/-- A run of words apart from the stored ones reads as before. -/
theorem Memory.readWords_writeWords_outside (m : Memory) {a b n : Nat} (ws : List Word)
    (h : b + 4 * n ≤ a ∨ a + 4 * ws.length ≤ b) : (m.writeWords a ws).readWords b n = m.readWords b n := by
  apply List.ext_getElem (by simp)
  intro i h1 h2
  have hi : i < n := by simpa using h1
  rw [Memory.getElem_readWords, Memory.getElem_readWords, Memory.readWord_writeWords_outside _ _ (by omega)]

end Sys2Proof.Machine
end

