-- ==== Sys2Proof/Laws/State.lean ====
section
/-! SUPPORT. One lemma per field per shared update: what each field is after it. No proof need unfold a record update. -/

namespace Sys2Proof.Machine

variable (s : State)

section OfPend
variable (src : IrqSource)
@[simp] theorem pend_auto : (pend src s).auto = s.auto := rfl
@[simp] theorem pend_mode : (pend src s).mode = s.mode := rfl
@[simp] theorem pend_cbusy : (pend src s).cbusy = s.cbusy := rfl
@[simp] theorem pend_cwait : (pend src s).cwait = s.cwait := rfl
@[simp] theorem pend_cstage : (pend src s).cstage = s.cstage := rfl
@[simp] theorem pend_curcmd : (pend src s).curcmd = s.curcmd := rfl
@[simp] theorem pend_w : (pend src s).w = s.w := rfl
@[simp] theorem pend_r : (pend src s).r = s.r := rfl
@[simp] theorem pend_ovrcnt : (pend src s).ovrcnt = s.ovrcnt := rfl
@[simp] theorem pend_igncnt : (pend src s).igncnt = s.igncnt := rfl
@[simp] theorem pend_fault : (pend src s).fault = s.fault := rfl
@[simp] theorem pend_fcause : (pend src s).fcause = s.fcause := rfl
@[simp] theorem pend_finfo : (pend src s).finfo = s.finfo := rfl
@[simp] theorem pend_irqEn : (pend src s).irqEn = s.irqEn := rfl
@[simp] theorem pend_irqPend : (pend src s).irqPend = s.irqPend ||| src.mask := rfl
@[simp] theorem pend_cfg : (pend src s).cfg = s.cfg := rfl
@[simp] theorem pend_lat : (pend src s).lat = s.lat := rfl
@[simp] theorem pend_prevRms : (pend src s).prevRms = s.prevRms := rfl
@[simp] theorem pend_wfloor : (pend src s).wfloor = s.wfloor := rfl
@[simp] theorem pend_wfirst : (pend src s).wfirst = s.wfirst := rfl
@[simp] theorem pend_wend : (pend src s).wend = s.wend := rfl
@[simp] theorem pend_lag : (pend src s).lag = s.lag := rfl
@[simp] theorem pend_tRms : (pend src s).tRms = s.tRms := rfl
@[simp] theorem pend_tFlux : (pend src s).tFlux = s.tFlux := rfl
@[simp] theorem pend_tFlags : (pend src s).tFlags = s.tFlags := rfl
@[simp] theorem pend_wNc : (pend src s).wNc = s.wNc := rfl
@[simp] theorem pend_wDombin : (pend src s).wDombin = s.wDombin := rfl
@[simp] theorem pend_wDomf : (pend src s).wDomf = s.wDomf := rfl
@[simp] theorem pend_wc : (pend src s).wc = s.wc := rfl
@[simp] theorem pend_bank : (pend src s).bank = s.bank := rfl
@[simp] theorem pend_cand : (pend src s).cand = s.cand := rfl
@[simp] theorem pend_mem : (pend src s).mem = s.mem := rfl
@[simp] theorem pend_stg : (pend src s).stg = s.stg := rfl
@[simp] theorem pend_stgCnt : (pend src s).stgCnt = s.stgCnt := rfl
@[simp] theorem pend_faultsSeen : (pend src s).faultsSeen = s.faultsSeen := rfl
@[simp] theorem pend_refusedMark : (pend src s).refusedMark = s.refusedMark := rfl
@[simp] theorem pend_resets : (pend src s).resets = s.resets := rfl
@[simp] theorem pend_turns : (pend src s).turns = s.turns := rfl
@[simp] theorem pend_waitFrom : (pend src s).waitFrom = s.waitFrom := rfl
@[simp] theorem pend_sched : (pend src s).sched = s.sched := rfl
@[simp] theorem pend_turn : (pend src s).turn = s.turn := rfl
@[simp] theorem pend_hostProg : (pend src s).hostProg = s.hostProg := rfl
@[simp] theorem pend_producerProg : (pend src s).producerProg = s.producerProg := rfl
@[simp] theorem pend_readerProg : (pend src s).readerProg = s.readerProg := rfl
@[simp] theorem pend_busData : (pend src s).busData = s.busData := rfl
@[simp] theorem pend_busError : (pend src s).busError = s.busError := rfl
end OfPend

section OfRaiseFault
variable (c : FaultCode) (info : Word)
@[simp] theorem raiseFault_auto : (raiseFault c info s).auto = s.auto := rfl
@[simp] theorem raiseFault_mode : (raiseFault c info s).mode = s.mode := rfl
@[simp] theorem raiseFault_cbusy : (raiseFault c info s).cbusy = s.cbusy := rfl
@[simp] theorem raiseFault_cwait : (raiseFault c info s).cwait = s.cwait := rfl
@[simp] theorem raiseFault_cstage : (raiseFault c info s).cstage = s.cstage := rfl
@[simp] theorem raiseFault_curcmd : (raiseFault c info s).curcmd = s.curcmd := rfl
@[simp] theorem raiseFault_w : (raiseFault c info s).w = s.w := rfl
@[simp] theorem raiseFault_r : (raiseFault c info s).r = s.r := rfl
@[simp] theorem raiseFault_ovrcnt : (raiseFault c info s).ovrcnt = s.ovrcnt := rfl
@[simp] theorem raiseFault_igncnt : (raiseFault c info s).igncnt = s.igncnt := rfl
@[simp] theorem raiseFault_fault : (raiseFault c info s).fault = s.fault ||| c.mask := rfl
@[simp] theorem raiseFault_fcause : (raiseFault c info s).fcause = c.code := rfl
@[simp] theorem raiseFault_finfo : (raiseFault c info s).finfo = info := rfl
@[simp] theorem raiseFault_irqEn : (raiseFault c info s).irqEn = s.irqEn := rfl
@[simp] theorem raiseFault_irqPend : (raiseFault c info s).irqPend = s.irqPend ||| c.source.mask := rfl
@[simp] theorem raiseFault_cfg : (raiseFault c info s).cfg = s.cfg := rfl
@[simp] theorem raiseFault_lat : (raiseFault c info s).lat = s.lat := rfl
@[simp] theorem raiseFault_prevRms : (raiseFault c info s).prevRms = s.prevRms := rfl
@[simp] theorem raiseFault_wfloor : (raiseFault c info s).wfloor = s.wfloor := rfl
@[simp] theorem raiseFault_wfirst : (raiseFault c info s).wfirst = s.wfirst := rfl
@[simp] theorem raiseFault_wend : (raiseFault c info s).wend = s.wend := rfl
@[simp] theorem raiseFault_lag : (raiseFault c info s).lag = s.lag := rfl
@[simp] theorem raiseFault_tRms : (raiseFault c info s).tRms = s.tRms := rfl
@[simp] theorem raiseFault_tFlux : (raiseFault c info s).tFlux = s.tFlux := rfl
@[simp] theorem raiseFault_tFlags : (raiseFault c info s).tFlags = s.tFlags := rfl
@[simp] theorem raiseFault_wNc : (raiseFault c info s).wNc = s.wNc := rfl
@[simp] theorem raiseFault_wDombin : (raiseFault c info s).wDombin = s.wDombin := rfl
@[simp] theorem raiseFault_wDomf : (raiseFault c info s).wDomf = s.wDomf := rfl
@[simp] theorem raiseFault_wc : (raiseFault c info s).wc = s.wc := rfl
@[simp] theorem raiseFault_bank : (raiseFault c info s).bank = s.bank := rfl
@[simp] theorem raiseFault_cand : (raiseFault c info s).cand = s.cand := rfl
@[simp] theorem raiseFault_mem : (raiseFault c info s).mem = s.mem := rfl
@[simp] theorem raiseFault_stg : (raiseFault c info s).stg = s.stg := rfl
@[simp] theorem raiseFault_stgCnt : (raiseFault c info s).stgCnt = s.stgCnt := rfl
@[simp] theorem raiseFault_faultsSeen : (raiseFault c info s).faultsSeen = s.faultsSeen ||| c.mask := rfl
@[simp] theorem raiseFault_refusedMark : (raiseFault c info s).refusedMark = s.refusedMark := rfl
@[simp] theorem raiseFault_resets : (raiseFault c info s).resets = s.resets := rfl
@[simp] theorem raiseFault_turns : (raiseFault c info s).turns = s.turns := rfl
@[simp] theorem raiseFault_waitFrom : (raiseFault c info s).waitFrom = s.waitFrom := rfl
@[simp] theorem raiseFault_sched : (raiseFault c info s).sched = s.sched := rfl
@[simp] theorem raiseFault_turn : (raiseFault c info s).turn = s.turn := rfl
@[simp] theorem raiseFault_hostProg : (raiseFault c info s).hostProg = s.hostProg := rfl
@[simp] theorem raiseFault_producerProg : (raiseFault c info s).producerProg = s.producerProg := rfl
@[simp] theorem raiseFault_readerProg : (raiseFault c info s).readerProg = s.readerProg := rfl
@[simp] theorem raiseFault_busData : (raiseFault c info s).busData = s.busData := rfl
@[simp] theorem raiseFault_busError : (raiseFault c info s).busError = s.busError := rfl
end OfRaiseFault

section OfClearFault
@[simp] theorem clearFault_auto : (clearFault s).auto = s.auto := rfl
@[simp] theorem clearFault_mode : (clearFault s).mode = s.mode := rfl
@[simp] theorem clearFault_cbusy : (clearFault s).cbusy = s.cbusy := rfl
@[simp] theorem clearFault_cwait : (clearFault s).cwait = s.cwait := rfl
@[simp] theorem clearFault_cstage : (clearFault s).cstage = s.cstage := rfl
@[simp] theorem clearFault_curcmd : (clearFault s).curcmd = s.curcmd := rfl
@[simp] theorem clearFault_w : (clearFault s).w = s.w := rfl
@[simp] theorem clearFault_r : (clearFault s).r = s.r := rfl
@[simp] theorem clearFault_ovrcnt : (clearFault s).ovrcnt = s.ovrcnt := rfl
@[simp] theorem clearFault_igncnt : (clearFault s).igncnt = s.igncnt := rfl
@[simp] theorem clearFault_fault : (clearFault s).fault = 0 := rfl
@[simp] theorem clearFault_fcause : (clearFault s).fcause = 0 := rfl
@[simp] theorem clearFault_finfo : (clearFault s).finfo = 0 := rfl
@[simp] theorem clearFault_irqEn : (clearFault s).irqEn = s.irqEn := rfl
@[simp] theorem clearFault_irqPend : (clearFault s).irqPend = s.irqPend := rfl
@[simp] theorem clearFault_cfg : (clearFault s).cfg = s.cfg := rfl
@[simp] theorem clearFault_lat : (clearFault s).lat = s.lat := rfl
@[simp] theorem clearFault_prevRms : (clearFault s).prevRms = s.prevRms := rfl
@[simp] theorem clearFault_wfloor : (clearFault s).wfloor = s.wfloor := rfl
@[simp] theorem clearFault_wfirst : (clearFault s).wfirst = s.wfirst := rfl
@[simp] theorem clearFault_wend : (clearFault s).wend = s.wend := rfl
@[simp] theorem clearFault_lag : (clearFault s).lag = s.lag := rfl
@[simp] theorem clearFault_tRms : (clearFault s).tRms = s.tRms := rfl
@[simp] theorem clearFault_tFlux : (clearFault s).tFlux = s.tFlux := rfl
@[simp] theorem clearFault_tFlags : (clearFault s).tFlags = s.tFlags := rfl
@[simp] theorem clearFault_wNc : (clearFault s).wNc = s.wNc := rfl
@[simp] theorem clearFault_wDombin : (clearFault s).wDombin = s.wDombin := rfl
@[simp] theorem clearFault_wDomf : (clearFault s).wDomf = s.wDomf := rfl
@[simp] theorem clearFault_wc : (clearFault s).wc = s.wc := rfl
@[simp] theorem clearFault_bank : (clearFault s).bank = s.bank := rfl
@[simp] theorem clearFault_cand : (clearFault s).cand = s.cand := rfl
@[simp] theorem clearFault_mem : (clearFault s).mem = s.mem := rfl
@[simp] theorem clearFault_stg : (clearFault s).stg = s.stg := rfl
@[simp] theorem clearFault_stgCnt : (clearFault s).stgCnt = s.stgCnt := rfl
@[simp] theorem clearFault_faultsSeen : (clearFault s).faultsSeen = s.faultsSeen := rfl
@[simp] theorem clearFault_refusedMark : (clearFault s).refusedMark = s.refusedMark := rfl
@[simp] theorem clearFault_resets : (clearFault s).resets = s.resets := rfl
@[simp] theorem clearFault_turns : (clearFault s).turns = s.turns := rfl
@[simp] theorem clearFault_waitFrom : (clearFault s).waitFrom = s.waitFrom := rfl
@[simp] theorem clearFault_sched : (clearFault s).sched = s.sched := rfl
@[simp] theorem clearFault_turn : (clearFault s).turn = s.turn := rfl
@[simp] theorem clearFault_hostProg : (clearFault s).hostProg = s.hostProg := rfl
@[simp] theorem clearFault_producerProg : (clearFault s).producerProg = s.producerProg := rfl
@[simp] theorem clearFault_readerProg : (clearFault s).readerProg = s.readerProg := rfl
@[simp] theorem clearFault_busData : (clearFault s).busData = s.busData := rfl
@[simp] theorem clearFault_busError : (clearFault s).busError = s.busError := rfl
end OfClearFault

section OfAnswer
variable (data : Word)
@[simp] theorem answer_auto : (answer data s).auto = s.auto := rfl
@[simp] theorem answer_mode : (answer data s).mode = s.mode := rfl
@[simp] theorem answer_cbusy : (answer data s).cbusy = s.cbusy := rfl
@[simp] theorem answer_cwait : (answer data s).cwait = s.cwait := rfl
@[simp] theorem answer_cstage : (answer data s).cstage = s.cstage := rfl
@[simp] theorem answer_curcmd : (answer data s).curcmd = s.curcmd := rfl
@[simp] theorem answer_w : (answer data s).w = s.w := rfl
@[simp] theorem answer_r : (answer data s).r = s.r := rfl
@[simp] theorem answer_ovrcnt : (answer data s).ovrcnt = s.ovrcnt := rfl
@[simp] theorem answer_igncnt : (answer data s).igncnt = s.igncnt := rfl
@[simp] theorem answer_fault : (answer data s).fault = s.fault := rfl
@[simp] theorem answer_fcause : (answer data s).fcause = s.fcause := rfl
@[simp] theorem answer_finfo : (answer data s).finfo = s.finfo := rfl
@[simp] theorem answer_irqEn : (answer data s).irqEn = s.irqEn := rfl
@[simp] theorem answer_irqPend : (answer data s).irqPend = s.irqPend := rfl
@[simp] theorem answer_cfg : (answer data s).cfg = s.cfg := rfl
@[simp] theorem answer_lat : (answer data s).lat = s.lat := rfl
@[simp] theorem answer_prevRms : (answer data s).prevRms = s.prevRms := rfl
@[simp] theorem answer_wfloor : (answer data s).wfloor = s.wfloor := rfl
@[simp] theorem answer_wfirst : (answer data s).wfirst = s.wfirst := rfl
@[simp] theorem answer_wend : (answer data s).wend = s.wend := rfl
@[simp] theorem answer_lag : (answer data s).lag = s.lag := rfl
@[simp] theorem answer_tRms : (answer data s).tRms = s.tRms := rfl
@[simp] theorem answer_tFlux : (answer data s).tFlux = s.tFlux := rfl
@[simp] theorem answer_tFlags : (answer data s).tFlags = s.tFlags := rfl
@[simp] theorem answer_wNc : (answer data s).wNc = s.wNc := rfl
@[simp] theorem answer_wDombin : (answer data s).wDombin = s.wDombin := rfl
@[simp] theorem answer_wDomf : (answer data s).wDomf = s.wDomf := rfl
@[simp] theorem answer_wc : (answer data s).wc = s.wc := rfl
@[simp] theorem answer_bank : (answer data s).bank = s.bank := rfl
@[simp] theorem answer_cand : (answer data s).cand = s.cand := rfl
@[simp] theorem answer_mem : (answer data s).mem = s.mem := rfl
@[simp] theorem answer_stg : (answer data s).stg = s.stg := rfl
@[simp] theorem answer_stgCnt : (answer data s).stgCnt = s.stgCnt := rfl
@[simp] theorem answer_faultsSeen : (answer data s).faultsSeen = s.faultsSeen := rfl
@[simp] theorem answer_refusedMark : (answer data s).refusedMark = s.refusedMark := rfl
@[simp] theorem answer_resets : (answer data s).resets = s.resets := rfl
@[simp] theorem answer_turns : (answer data s).turns = s.turns := rfl
@[simp] theorem answer_waitFrom : (answer data s).waitFrom = s.waitFrom := rfl
@[simp] theorem answer_sched : (answer data s).sched = s.sched := rfl
@[simp] theorem answer_turn : (answer data s).turn = s.turn := rfl
@[simp] theorem answer_hostProg : (answer data s).hostProg = s.hostProg := rfl
@[simp] theorem answer_producerProg : (answer data s).producerProg = s.producerProg := rfl
@[simp] theorem answer_readerProg : (answer data s).readerProg = s.readerProg := rfl
@[simp] theorem answer_busData : (answer data s).busData = data := rfl
@[simp] theorem answer_busError : (answer data s).busError = false := rfl
end OfAnswer

section OfRaiseBusError
variable (a : Addr)
@[simp] theorem raiseBusError_auto : (raiseBusError a s).auto = s.auto := rfl
@[simp] theorem raiseBusError_mode : (raiseBusError a s).mode = s.mode := rfl
@[simp] theorem raiseBusError_cbusy : (raiseBusError a s).cbusy = s.cbusy := rfl
@[simp] theorem raiseBusError_cwait : (raiseBusError a s).cwait = s.cwait := rfl
@[simp] theorem raiseBusError_cstage : (raiseBusError a s).cstage = s.cstage := rfl
@[simp] theorem raiseBusError_curcmd : (raiseBusError a s).curcmd = s.curcmd := rfl
@[simp] theorem raiseBusError_w : (raiseBusError a s).w = s.w := rfl
@[simp] theorem raiseBusError_r : (raiseBusError a s).r = s.r := rfl
@[simp] theorem raiseBusError_ovrcnt : (raiseBusError a s).ovrcnt = s.ovrcnt := rfl
@[simp] theorem raiseBusError_igncnt : (raiseBusError a s).igncnt = s.igncnt := rfl
@[simp] theorem raiseBusError_fault : (raiseBusError a s).fault = s.fault ||| FaultCode.buserr.mask := rfl
@[simp] theorem raiseBusError_fcause : (raiseBusError a s).fcause = FaultCode.buserr.code := rfl
@[simp] theorem raiseBusError_finfo : (raiseBusError a s).finfo = a.zeroExtend 32 := rfl
@[simp] theorem raiseBusError_irqEn : (raiseBusError a s).irqEn = s.irqEn := rfl
@[simp] theorem raiseBusError_irqPend : (raiseBusError a s).irqPend = s.irqPend ||| FaultCode.buserr.source.mask := rfl
@[simp] theorem raiseBusError_cfg : (raiseBusError a s).cfg = s.cfg := rfl
@[simp] theorem raiseBusError_lat : (raiseBusError a s).lat = s.lat := rfl
@[simp] theorem raiseBusError_prevRms : (raiseBusError a s).prevRms = s.prevRms := rfl
@[simp] theorem raiseBusError_wfloor : (raiseBusError a s).wfloor = s.wfloor := rfl
@[simp] theorem raiseBusError_wfirst : (raiseBusError a s).wfirst = s.wfirst := rfl
@[simp] theorem raiseBusError_wend : (raiseBusError a s).wend = s.wend := rfl
@[simp] theorem raiseBusError_lag : (raiseBusError a s).lag = s.lag := rfl
@[simp] theorem raiseBusError_tRms : (raiseBusError a s).tRms = s.tRms := rfl
@[simp] theorem raiseBusError_tFlux : (raiseBusError a s).tFlux = s.tFlux := rfl
@[simp] theorem raiseBusError_tFlags : (raiseBusError a s).tFlags = s.tFlags := rfl
@[simp] theorem raiseBusError_wNc : (raiseBusError a s).wNc = s.wNc := rfl
@[simp] theorem raiseBusError_wDombin : (raiseBusError a s).wDombin = s.wDombin := rfl
@[simp] theorem raiseBusError_wDomf : (raiseBusError a s).wDomf = s.wDomf := rfl
@[simp] theorem raiseBusError_wc : (raiseBusError a s).wc = s.wc := rfl
@[simp] theorem raiseBusError_bank : (raiseBusError a s).bank = s.bank := rfl
@[simp] theorem raiseBusError_cand : (raiseBusError a s).cand = s.cand := rfl
@[simp] theorem raiseBusError_mem : (raiseBusError a s).mem = s.mem := rfl
@[simp] theorem raiseBusError_stg : (raiseBusError a s).stg = s.stg := rfl
@[simp] theorem raiseBusError_stgCnt : (raiseBusError a s).stgCnt = s.stgCnt := rfl
@[simp] theorem raiseBusError_faultsSeen : (raiseBusError a s).faultsSeen = s.faultsSeen ||| FaultCode.buserr.mask := rfl
@[simp] theorem raiseBusError_refusedMark : (raiseBusError a s).refusedMark = s.refusedMark := rfl
@[simp] theorem raiseBusError_resets : (raiseBusError a s).resets = s.resets := rfl
@[simp] theorem raiseBusError_turns : (raiseBusError a s).turns = s.turns := rfl
@[simp] theorem raiseBusError_waitFrom : (raiseBusError a s).waitFrom = s.waitFrom := rfl
@[simp] theorem raiseBusError_sched : (raiseBusError a s).sched = s.sched := rfl
@[simp] theorem raiseBusError_turn : (raiseBusError a s).turn = s.turn := rfl
@[simp] theorem raiseBusError_hostProg : (raiseBusError a s).hostProg = s.hostProg := rfl
@[simp] theorem raiseBusError_producerProg : (raiseBusError a s).producerProg = s.producerProg := rfl
@[simp] theorem raiseBusError_readerProg : (raiseBusError a s).readerProg = s.readerProg := rfl
@[simp] theorem raiseBusError_busData : (raiseBusError a s).busData = 0 := rfl
@[simp] theorem raiseBusError_busError : (raiseBusError a s).busError = true := rfl
end OfRaiseBusError

section OfGoIdle
@[simp] theorem goIdle_auto : (goIdle s).auto = s.auto := rfl
@[simp] theorem goIdle_mode : (goIdle s).mode = .idle := rfl
@[simp] theorem goIdle_cbusy : (goIdle s).cbusy = s.cbusy := rfl
@[simp] theorem goIdle_cwait : (goIdle s).cwait = s.cwait := rfl
@[simp] theorem goIdle_cstage : (goIdle s).cstage = s.cstage := rfl
@[simp] theorem goIdle_curcmd : (goIdle s).curcmd = s.curcmd := rfl
@[simp] theorem goIdle_w : (goIdle s).w = s.w := rfl
@[simp] theorem goIdle_r : (goIdle s).r = s.r := rfl
@[simp] theorem goIdle_ovrcnt : (goIdle s).ovrcnt = s.ovrcnt := rfl
@[simp] theorem goIdle_igncnt : (goIdle s).igncnt = s.igncnt := rfl
@[simp] theorem goIdle_fault : (goIdle s).fault = s.fault := rfl
@[simp] theorem goIdle_fcause : (goIdle s).fcause = s.fcause := rfl
@[simp] theorem goIdle_finfo : (goIdle s).finfo = s.finfo := rfl
@[simp] theorem goIdle_irqEn : (goIdle s).irqEn = s.irqEn := rfl
@[simp] theorem goIdle_irqPend : (goIdle s).irqPend = s.irqPend ||| IrqSource.stopped.mask := rfl
@[simp] theorem goIdle_cfg : (goIdle s).cfg = s.cfg := rfl
@[simp] theorem goIdle_lat : (goIdle s).lat = s.lat := rfl
@[simp] theorem goIdle_prevRms : (goIdle s).prevRms = s.prevRms := rfl
@[simp] theorem goIdle_wfloor : (goIdle s).wfloor = s.wfloor := rfl
@[simp] theorem goIdle_wfirst : (goIdle s).wfirst = s.wfirst := rfl
@[simp] theorem goIdle_wend : (goIdle s).wend = s.wend := rfl
@[simp] theorem goIdle_lag : (goIdle s).lag = s.lag := rfl
@[simp] theorem goIdle_tRms : (goIdle s).tRms = s.tRms := rfl
@[simp] theorem goIdle_tFlux : (goIdle s).tFlux = s.tFlux := rfl
@[simp] theorem goIdle_tFlags : (goIdle s).tFlags = s.tFlags := rfl
@[simp] theorem goIdle_wNc : (goIdle s).wNc = s.wNc := rfl
@[simp] theorem goIdle_wDombin : (goIdle s).wDombin = s.wDombin := rfl
@[simp] theorem goIdle_wDomf : (goIdle s).wDomf = s.wDomf := rfl
@[simp] theorem goIdle_wc : (goIdle s).wc = s.wc := rfl
@[simp] theorem goIdle_bank : (goIdle s).bank = s.bank := rfl
@[simp] theorem goIdle_cand : (goIdle s).cand = s.cand := rfl
@[simp] theorem goIdle_mem : (goIdle s).mem = s.mem := rfl
@[simp] theorem goIdle_stg : (goIdle s).stg = s.stg := rfl
@[simp] theorem goIdle_stgCnt : (goIdle s).stgCnt = s.stgCnt := rfl
@[simp] theorem goIdle_faultsSeen : (goIdle s).faultsSeen = s.faultsSeen := rfl
@[simp] theorem goIdle_refusedMark : (goIdle s).refusedMark = s.refusedMark := rfl
@[simp] theorem goIdle_resets : (goIdle s).resets = s.resets := rfl
@[simp] theorem goIdle_turns : (goIdle s).turns = s.turns := rfl
@[simp] theorem goIdle_waitFrom : (goIdle s).waitFrom = s.waitFrom := rfl
@[simp] theorem goIdle_sched : (goIdle s).sched = s.sched := rfl
@[simp] theorem goIdle_turn : (goIdle s).turn = s.turn := rfl
@[simp] theorem goIdle_hostProg : (goIdle s).hostProg = s.hostProg := rfl
@[simp] theorem goIdle_producerProg : (goIdle s).producerProg = s.producerProg := rfl
@[simp] theorem goIdle_readerProg : (goIdle s).readerProg = s.readerProg := rfl
@[simp] theorem goIdle_busData : (goIdle s).busData = s.busData := rfl
@[simp] theorem goIdle_busError : (goIdle s).busError = s.busError := rfl
end OfGoIdle

section OfAdvance
variable (st : Stage)
@[simp] theorem advance_auto : (advance st s).auto = s.auto := rfl
@[simp] theorem advance_mode : (advance st s).mode = s.mode := rfl
@[simp] theorem advance_cbusy : (advance st s).cbusy = s.cbusy := rfl
@[simp] theorem advance_cwait : (advance st s).cwait = s.cwait := rfl
@[simp] theorem advance_cstage : (advance st s).cstage = st := rfl
@[simp] theorem advance_curcmd : (advance st s).curcmd = s.curcmd := rfl
@[simp] theorem advance_w : (advance st s).w = s.w := rfl
@[simp] theorem advance_r : (advance st s).r = s.r := rfl
@[simp] theorem advance_ovrcnt : (advance st s).ovrcnt = s.ovrcnt := rfl
@[simp] theorem advance_igncnt : (advance st s).igncnt = s.igncnt := rfl
@[simp] theorem advance_fault : (advance st s).fault = s.fault := rfl
@[simp] theorem advance_fcause : (advance st s).fcause = s.fcause := rfl
@[simp] theorem advance_finfo : (advance st s).finfo = s.finfo := rfl
@[simp] theorem advance_irqEn : (advance st s).irqEn = s.irqEn := rfl
@[simp] theorem advance_irqPend : (advance st s).irqPend = s.irqPend := rfl
@[simp] theorem advance_cfg : (advance st s).cfg = s.cfg := rfl
@[simp] theorem advance_lat : (advance st s).lat = s.lat := rfl
@[simp] theorem advance_prevRms : (advance st s).prevRms = s.prevRms := rfl
@[simp] theorem advance_wfloor : (advance st s).wfloor = s.wfloor := rfl
@[simp] theorem advance_wfirst : (advance st s).wfirst = s.wfirst := rfl
@[simp] theorem advance_wend : (advance st s).wend = s.wend := rfl
@[simp] theorem advance_lag : (advance st s).lag = s.lag := rfl
@[simp] theorem advance_tRms : (advance st s).tRms = s.tRms := rfl
@[simp] theorem advance_tFlux : (advance st s).tFlux = s.tFlux := rfl
@[simp] theorem advance_tFlags : (advance st s).tFlags = s.tFlags := rfl
@[simp] theorem advance_wNc : (advance st s).wNc = s.wNc := rfl
@[simp] theorem advance_wDombin : (advance st s).wDombin = s.wDombin := rfl
@[simp] theorem advance_wDomf : (advance st s).wDomf = s.wDomf := rfl
@[simp] theorem advance_wc : (advance st s).wc = s.wc := rfl
@[simp] theorem advance_bank : (advance st s).bank = s.bank := rfl
@[simp] theorem advance_cand : (advance st s).cand = s.cand := rfl
@[simp] theorem advance_mem : (advance st s).mem = s.mem := rfl
@[simp] theorem advance_stg : (advance st s).stg = s.stg := rfl
@[simp] theorem advance_stgCnt : (advance st s).stgCnt = s.stgCnt := rfl
@[simp] theorem advance_faultsSeen : (advance st s).faultsSeen = s.faultsSeen := rfl
@[simp] theorem advance_refusedMark : (advance st s).refusedMark = s.refusedMark := rfl
@[simp] theorem advance_resets : (advance st s).resets = s.resets := rfl
@[simp] theorem advance_turns : (advance st s).turns = s.turns := rfl
@[simp] theorem advance_waitFrom : (advance st s).waitFrom = s.waitFrom := rfl
@[simp] theorem advance_sched : (advance st s).sched = s.sched := rfl
@[simp] theorem advance_turn : (advance st s).turn = s.turn := rfl
@[simp] theorem advance_hostProg : (advance st s).hostProg = s.hostProg := rfl
@[simp] theorem advance_producerProg : (advance st s).producerProg = s.producerProg := rfl
@[simp] theorem advance_readerProg : (advance st s).readerProg = s.readerProg := rfl
@[simp] theorem advance_busData : (advance st s).busData = s.busData := rfl
@[simp] theorem advance_busError : (advance st s).busError = s.busError := rfl
end OfAdvance

section OfStartCommand
variable (i : Instr) (first : Stage)
@[simp] theorem startCommand_auto : (startCommand i first s).auto = s.auto := rfl
@[simp] theorem startCommand_mode : (startCommand i first s).mode = s.mode := rfl
@[simp] theorem startCommand_cbusy : (startCommand i first s).cbusy = true := rfl
@[simp] theorem startCommand_cwait : (startCommand i first s).cwait = (if first = .snapshot then true else s.cwait) := rfl
@[simp] theorem startCommand_cstage : (startCommand i first s).cstage = first := rfl
@[simp] theorem startCommand_curcmd : (startCommand i first s).curcmd = encode i := rfl
@[simp] theorem startCommand_w : (startCommand i first s).w = s.w := rfl
@[simp] theorem startCommand_r : (startCommand i first s).r = s.r := rfl
@[simp] theorem startCommand_ovrcnt : (startCommand i first s).ovrcnt = s.ovrcnt := rfl
@[simp] theorem startCommand_igncnt : (startCommand i first s).igncnt = s.igncnt := rfl
@[simp] theorem startCommand_fault : (startCommand i first s).fault = s.fault := rfl
@[simp] theorem startCommand_fcause : (startCommand i first s).fcause = s.fcause := rfl
@[simp] theorem startCommand_finfo : (startCommand i first s).finfo = s.finfo := rfl
@[simp] theorem startCommand_irqEn : (startCommand i first s).irqEn = s.irqEn := rfl
@[simp] theorem startCommand_irqPend : (startCommand i first s).irqPend = s.irqPend := rfl
@[simp] theorem startCommand_cfg : (startCommand i first s).cfg = s.cfg := rfl
@[simp] theorem startCommand_lat : (startCommand i first s).lat = s.lat := rfl
@[simp] theorem startCommand_prevRms : (startCommand i first s).prevRms = s.prevRms := rfl
@[simp] theorem startCommand_wfloor : (startCommand i first s).wfloor = s.wfloor := rfl
@[simp] theorem startCommand_wfirst : (startCommand i first s).wfirst = s.wfirst := rfl
@[simp] theorem startCommand_wend : (startCommand i first s).wend = s.wend := rfl
@[simp] theorem startCommand_lag : (startCommand i first s).lag = s.lag := rfl
@[simp] theorem startCommand_tRms : (startCommand i first s).tRms = s.tRms := rfl
@[simp] theorem startCommand_tFlux : (startCommand i first s).tFlux = s.tFlux := rfl
@[simp] theorem startCommand_tFlags : (startCommand i first s).tFlags = s.tFlags := rfl
@[simp] theorem startCommand_wNc : (startCommand i first s).wNc = s.wNc := rfl
@[simp] theorem startCommand_wDombin : (startCommand i first s).wDombin = s.wDombin := rfl
@[simp] theorem startCommand_wDomf : (startCommand i first s).wDomf = s.wDomf := rfl
@[simp] theorem startCommand_wc : (startCommand i first s).wc = s.wc := rfl
@[simp] theorem startCommand_bank : (startCommand i first s).bank = s.bank := rfl
@[simp] theorem startCommand_cand : (startCommand i first s).cand = s.cand := rfl
@[simp] theorem startCommand_mem : (startCommand i first s).mem = s.mem := rfl
@[simp] theorem startCommand_stg : (startCommand i first s).stg = s.stg := rfl
@[simp] theorem startCommand_stgCnt : (startCommand i first s).stgCnt = s.stgCnt := rfl
@[simp] theorem startCommand_faultsSeen : (startCommand i first s).faultsSeen = s.faultsSeen := rfl
@[simp] theorem startCommand_refusedMark : (startCommand i first s).refusedMark = s.refusedMark := rfl
@[simp] theorem startCommand_resets : (startCommand i first s).resets = s.resets := rfl
@[simp] theorem startCommand_turns : (startCommand i first s).turns = s.turns := rfl
@[simp] theorem startCommand_waitFrom : (startCommand i first s).waitFrom = s.waitFrom := rfl
@[simp] theorem startCommand_sched : (startCommand i first s).sched = s.sched := rfl
@[simp] theorem startCommand_turn : (startCommand i first s).turn = s.turn := rfl
@[simp] theorem startCommand_hostProg : (startCommand i first s).hostProg = s.hostProg := rfl
@[simp] theorem startCommand_producerProg : (startCommand i first s).producerProg = s.producerProg := rfl
@[simp] theorem startCommand_readerProg : (startCommand i first s).readerProg = s.readerProg := rfl
@[simp] theorem startCommand_busData : (startCommand i first s).busData = s.busData := rfl
@[simp] theorem startCommand_busError : (startCommand i first s).busError = s.busError := rfl
end OfStartCommand

section OfSetElems
variable (g : Region) (i : Nat) (ws : List Word)
@[simp] theorem setElems_auto : (s.setElems g i ws).auto = s.auto := rfl
@[simp] theorem setElems_mode : (s.setElems g i ws).mode = s.mode := rfl
@[simp] theorem setElems_cbusy : (s.setElems g i ws).cbusy = s.cbusy := rfl
@[simp] theorem setElems_cwait : (s.setElems g i ws).cwait = s.cwait := rfl
@[simp] theorem setElems_cstage : (s.setElems g i ws).cstage = s.cstage := rfl
@[simp] theorem setElems_curcmd : (s.setElems g i ws).curcmd = s.curcmd := rfl
@[simp] theorem setElems_w : (s.setElems g i ws).w = s.w := rfl
@[simp] theorem setElems_r : (s.setElems g i ws).r = s.r := rfl
@[simp] theorem setElems_ovrcnt : (s.setElems g i ws).ovrcnt = s.ovrcnt := rfl
@[simp] theorem setElems_igncnt : (s.setElems g i ws).igncnt = s.igncnt := rfl
@[simp] theorem setElems_fault : (s.setElems g i ws).fault = s.fault := rfl
@[simp] theorem setElems_fcause : (s.setElems g i ws).fcause = s.fcause := rfl
@[simp] theorem setElems_finfo : (s.setElems g i ws).finfo = s.finfo := rfl
@[simp] theorem setElems_irqEn : (s.setElems g i ws).irqEn = s.irqEn := rfl
@[simp] theorem setElems_irqPend : (s.setElems g i ws).irqPend = s.irqPend := rfl
@[simp] theorem setElems_cfg : (s.setElems g i ws).cfg = s.cfg := rfl
@[simp] theorem setElems_lat : (s.setElems g i ws).lat = s.lat := rfl
@[simp] theorem setElems_prevRms : (s.setElems g i ws).prevRms = s.prevRms := rfl
@[simp] theorem setElems_wfloor : (s.setElems g i ws).wfloor = s.wfloor := rfl
@[simp] theorem setElems_wfirst : (s.setElems g i ws).wfirst = s.wfirst := rfl
@[simp] theorem setElems_wend : (s.setElems g i ws).wend = s.wend := rfl
@[simp] theorem setElems_lag : (s.setElems g i ws).lag = s.lag := rfl
@[simp] theorem setElems_tRms : (s.setElems g i ws).tRms = s.tRms := rfl
@[simp] theorem setElems_tFlux : (s.setElems g i ws).tFlux = s.tFlux := rfl
@[simp] theorem setElems_tFlags : (s.setElems g i ws).tFlags = s.tFlags := rfl
@[simp] theorem setElems_wNc : (s.setElems g i ws).wNc = s.wNc := rfl
@[simp] theorem setElems_wDombin : (s.setElems g i ws).wDombin = s.wDombin := rfl
@[simp] theorem setElems_wDomf : (s.setElems g i ws).wDomf = s.wDomf := rfl
@[simp] theorem setElems_wc : (s.setElems g i ws).wc = s.wc := rfl
@[simp] theorem setElems_bank : (s.setElems g i ws).bank = s.bank := rfl
@[simp] theorem setElems_cand : (s.setElems g i ws).cand = s.cand := rfl
@[simp] theorem setElems_mem : (s.setElems g i ws).mem = s.mem.writeWords (g.addr i) ws := rfl
@[simp] theorem setElems_stg : (s.setElems g i ws).stg = s.stg := rfl
@[simp] theorem setElems_stgCnt : (s.setElems g i ws).stgCnt = s.stgCnt := rfl
@[simp] theorem setElems_faultsSeen : (s.setElems g i ws).faultsSeen = s.faultsSeen := rfl
@[simp] theorem setElems_refusedMark : (s.setElems g i ws).refusedMark = s.refusedMark := rfl
@[simp] theorem setElems_resets : (s.setElems g i ws).resets = s.resets := rfl
@[simp] theorem setElems_turns : (s.setElems g i ws).turns = s.turns := rfl
@[simp] theorem setElems_waitFrom : (s.setElems g i ws).waitFrom = s.waitFrom := rfl
@[simp] theorem setElems_sched : (s.setElems g i ws).sched = s.sched := rfl
@[simp] theorem setElems_turn : (s.setElems g i ws).turn = s.turn := rfl
@[simp] theorem setElems_hostProg : (s.setElems g i ws).hostProg = s.hostProg := rfl
@[simp] theorem setElems_producerProg : (s.setElems g i ws).producerProg = s.producerProg := rfl
@[simp] theorem setElems_readerProg : (s.setElems g i ws).readerProg = s.readerProg := rfl
@[simp] theorem setElems_busData : (s.setElems g i ws).busData = s.busData := rfl
@[simp] theorem setElems_busError : (s.setElems g i ws).busError = s.busError := rfl
end OfSetElems

section OfIgnorePush
@[simp] theorem ignorePush_auto : (ignorePush s).auto = s.auto := rfl
@[simp] theorem ignorePush_mode : (ignorePush s).mode = s.mode := rfl
@[simp] theorem ignorePush_cbusy : (ignorePush s).cbusy = s.cbusy := rfl
@[simp] theorem ignorePush_cwait : (ignorePush s).cwait = s.cwait := rfl
@[simp] theorem ignorePush_cstage : (ignorePush s).cstage = s.cstage := rfl
@[simp] theorem ignorePush_curcmd : (ignorePush s).curcmd = s.curcmd := rfl
@[simp] theorem ignorePush_w : (ignorePush s).w = s.w := rfl
@[simp] theorem ignorePush_r : (ignorePush s).r = s.r := rfl
@[simp] theorem ignorePush_ovrcnt : (ignorePush s).ovrcnt = s.ovrcnt := rfl
@[simp] theorem ignorePush_igncnt : (ignorePush s).igncnt = satInc s.igncnt := rfl
@[simp] theorem ignorePush_fault : (ignorePush s).fault = s.fault := rfl
@[simp] theorem ignorePush_fcause : (ignorePush s).fcause = s.fcause := rfl
@[simp] theorem ignorePush_finfo : (ignorePush s).finfo = s.finfo := rfl
@[simp] theorem ignorePush_irqEn : (ignorePush s).irqEn = s.irqEn := rfl
@[simp] theorem ignorePush_irqPend : (ignorePush s).irqPend = s.irqPend := rfl
@[simp] theorem ignorePush_cfg : (ignorePush s).cfg = s.cfg := rfl
@[simp] theorem ignorePush_lat : (ignorePush s).lat = s.lat := rfl
@[simp] theorem ignorePush_prevRms : (ignorePush s).prevRms = s.prevRms := rfl
@[simp] theorem ignorePush_wfloor : (ignorePush s).wfloor = s.wfloor := rfl
@[simp] theorem ignorePush_wfirst : (ignorePush s).wfirst = s.wfirst := rfl
@[simp] theorem ignorePush_wend : (ignorePush s).wend = s.wend := rfl
@[simp] theorem ignorePush_lag : (ignorePush s).lag = s.lag := rfl
@[simp] theorem ignorePush_tRms : (ignorePush s).tRms = s.tRms := rfl
@[simp] theorem ignorePush_tFlux : (ignorePush s).tFlux = s.tFlux := rfl
@[simp] theorem ignorePush_tFlags : (ignorePush s).tFlags = s.tFlags := rfl
@[simp] theorem ignorePush_wNc : (ignorePush s).wNc = s.wNc := rfl
@[simp] theorem ignorePush_wDombin : (ignorePush s).wDombin = s.wDombin := rfl
@[simp] theorem ignorePush_wDomf : (ignorePush s).wDomf = s.wDomf := rfl
@[simp] theorem ignorePush_wc : (ignorePush s).wc = s.wc := rfl
@[simp] theorem ignorePush_bank : (ignorePush s).bank = s.bank := rfl
@[simp] theorem ignorePush_cand : (ignorePush s).cand = s.cand := rfl
@[simp] theorem ignorePush_mem : (ignorePush s).mem = s.mem := rfl
@[simp] theorem ignorePush_stg : (ignorePush s).stg = s.stg := rfl
@[simp] theorem ignorePush_stgCnt : (ignorePush s).stgCnt = 0 := rfl
@[simp] theorem ignorePush_faultsSeen : (ignorePush s).faultsSeen = s.faultsSeen := rfl
@[simp] theorem ignorePush_refusedMark : (ignorePush s).refusedMark = s.refusedMark := rfl
@[simp] theorem ignorePush_resets : (ignorePush s).resets = s.resets := rfl
@[simp] theorem ignorePush_turns : (ignorePush s).turns = s.turns := rfl
@[simp] theorem ignorePush_waitFrom : (ignorePush s).waitFrom = s.waitFrom := rfl
@[simp] theorem ignorePush_sched : (ignorePush s).sched = s.sched := rfl
@[simp] theorem ignorePush_turn : (ignorePush s).turn = s.turn := rfl
@[simp] theorem ignorePush_hostProg : (ignorePush s).hostProg = s.hostProg := rfl
@[simp] theorem ignorePush_producerProg : (ignorePush s).producerProg = s.producerProg := rfl
@[simp] theorem ignorePush_readerProg : (ignorePush s).readerProg = s.readerProg := rfl
@[simp] theorem ignorePush_busData : (ignorePush s).busData = s.busData := rfl
@[simp] theorem ignorePush_busError : (ignorePush s).busError = s.busError := rfl
end OfIgnorePush

section OfRejectFrame
variable (c : FaultCode) (info : Word)
@[simp] theorem rejectFrame_auto : (rejectFrame c info s).auto = s.auto := rfl
@[simp] theorem rejectFrame_mode : (rejectFrame c info s).mode = .faulted := rfl
@[simp] theorem rejectFrame_cbusy : (rejectFrame c info s).cbusy = s.cbusy := rfl
@[simp] theorem rejectFrame_cwait : (rejectFrame c info s).cwait = s.cwait := rfl
@[simp] theorem rejectFrame_cstage : (rejectFrame c info s).cstage = s.cstage := rfl
@[simp] theorem rejectFrame_curcmd : (rejectFrame c info s).curcmd = s.curcmd := rfl
@[simp] theorem rejectFrame_w : (rejectFrame c info s).w = s.w := rfl
@[simp] theorem rejectFrame_r : (rejectFrame c info s).r = s.r := rfl
@[simp] theorem rejectFrame_ovrcnt : (rejectFrame c info s).ovrcnt = s.ovrcnt := rfl
@[simp] theorem rejectFrame_igncnt : (rejectFrame c info s).igncnt = s.igncnt := rfl
@[simp] theorem rejectFrame_fault : (rejectFrame c info s).fault = s.fault ||| c.mask := rfl
@[simp] theorem rejectFrame_fcause : (rejectFrame c info s).fcause = c.code := rfl
@[simp] theorem rejectFrame_finfo : (rejectFrame c info s).finfo = info := rfl
@[simp] theorem rejectFrame_irqEn : (rejectFrame c info s).irqEn = s.irqEn := rfl
@[simp] theorem rejectFrame_irqPend : (rejectFrame c info s).irqPend = s.irqPend ||| c.source.mask := rfl
@[simp] theorem rejectFrame_cfg : (rejectFrame c info s).cfg = s.cfg := rfl
@[simp] theorem rejectFrame_lat : (rejectFrame c info s).lat = s.lat := rfl
@[simp] theorem rejectFrame_prevRms : (rejectFrame c info s).prevRms = s.prevRms := rfl
@[simp] theorem rejectFrame_wfloor : (rejectFrame c info s).wfloor = s.wfloor := rfl
@[simp] theorem rejectFrame_wfirst : (rejectFrame c info s).wfirst = s.wfirst := rfl
@[simp] theorem rejectFrame_wend : (rejectFrame c info s).wend = s.wend := rfl
@[simp] theorem rejectFrame_lag : (rejectFrame c info s).lag = s.lag := rfl
@[simp] theorem rejectFrame_tRms : (rejectFrame c info s).tRms = s.tRms := rfl
@[simp] theorem rejectFrame_tFlux : (rejectFrame c info s).tFlux = s.tFlux := rfl
@[simp] theorem rejectFrame_tFlags : (rejectFrame c info s).tFlags = s.tFlags := rfl
@[simp] theorem rejectFrame_wNc : (rejectFrame c info s).wNc = s.wNc := rfl
@[simp] theorem rejectFrame_wDombin : (rejectFrame c info s).wDombin = s.wDombin := rfl
@[simp] theorem rejectFrame_wDomf : (rejectFrame c info s).wDomf = s.wDomf := rfl
@[simp] theorem rejectFrame_wc : (rejectFrame c info s).wc = s.wc := rfl
@[simp] theorem rejectFrame_bank : (rejectFrame c info s).bank = s.bank := rfl
@[simp] theorem rejectFrame_cand : (rejectFrame c info s).cand = s.cand := rfl
@[simp] theorem rejectFrame_mem : (rejectFrame c info s).mem = s.mem := rfl
@[simp] theorem rejectFrame_stg : (rejectFrame c info s).stg = s.stg := rfl
@[simp] theorem rejectFrame_stgCnt : (rejectFrame c info s).stgCnt = 0 := rfl
@[simp] theorem rejectFrame_faultsSeen : (rejectFrame c info s).faultsSeen = s.faultsSeen ||| c.mask := rfl
@[simp] theorem rejectFrame_refusedMark : (rejectFrame c info s).refusedMark = s.refusedMark := rfl
@[simp] theorem rejectFrame_resets : (rejectFrame c info s).resets = s.resets := rfl
@[simp] theorem rejectFrame_turns : (rejectFrame c info s).turns = s.turns := rfl
@[simp] theorem rejectFrame_waitFrom : (rejectFrame c info s).waitFrom = s.waitFrom := rfl
@[simp] theorem rejectFrame_sched : (rejectFrame c info s).sched = s.sched := rfl
@[simp] theorem rejectFrame_turn : (rejectFrame c info s).turn = s.turn := rfl
@[simp] theorem rejectFrame_hostProg : (rejectFrame c info s).hostProg = s.hostProg := rfl
@[simp] theorem rejectFrame_producerProg : (rejectFrame c info s).producerProg = s.producerProg := rfl
@[simp] theorem rejectFrame_readerProg : (rejectFrame c info s).readerProg = s.readerProg := rfl
@[simp] theorem rejectFrame_busData : (rejectFrame c info s).busData = s.busData := rfl
@[simp] theorem rejectFrame_busError : (rejectFrame c info s).busError = s.busError := rfl
end OfRejectFrame

section OfStageSample
variable (v : Word)
@[simp] theorem stageSample_auto : (stageSample v s).auto = s.auto := rfl
@[simp] theorem stageSample_mode : (stageSample v s).mode = s.mode := rfl
@[simp] theorem stageSample_cbusy : (stageSample v s).cbusy = s.cbusy := rfl
@[simp] theorem stageSample_cwait : (stageSample v s).cwait = s.cwait := rfl
@[simp] theorem stageSample_cstage : (stageSample v s).cstage = s.cstage := rfl
@[simp] theorem stageSample_curcmd : (stageSample v s).curcmd = s.curcmd := rfl
@[simp] theorem stageSample_w : (stageSample v s).w = s.w := rfl
@[simp] theorem stageSample_r : (stageSample v s).r = s.r := rfl
@[simp] theorem stageSample_ovrcnt : (stageSample v s).ovrcnt = s.ovrcnt := rfl
@[simp] theorem stageSample_igncnt : (stageSample v s).igncnt = s.igncnt := rfl
@[simp] theorem stageSample_fault : (stageSample v s).fault = s.fault := rfl
@[simp] theorem stageSample_fcause : (stageSample v s).fcause = s.fcause := rfl
@[simp] theorem stageSample_finfo : (stageSample v s).finfo = s.finfo := rfl
@[simp] theorem stageSample_irqEn : (stageSample v s).irqEn = s.irqEn := rfl
@[simp] theorem stageSample_irqPend : (stageSample v s).irqPend = s.irqPend := rfl
@[simp] theorem stageSample_cfg : (stageSample v s).cfg = s.cfg := rfl
@[simp] theorem stageSample_lat : (stageSample v s).lat = s.lat := rfl
@[simp] theorem stageSample_prevRms : (stageSample v s).prevRms = s.prevRms := rfl
@[simp] theorem stageSample_wfloor : (stageSample v s).wfloor = s.wfloor := rfl
@[simp] theorem stageSample_wfirst : (stageSample v s).wfirst = s.wfirst := rfl
@[simp] theorem stageSample_wend : (stageSample v s).wend = s.wend := rfl
@[simp] theorem stageSample_lag : (stageSample v s).lag = s.lag := rfl
@[simp] theorem stageSample_tRms : (stageSample v s).tRms = s.tRms := rfl
@[simp] theorem stageSample_tFlux : (stageSample v s).tFlux = s.tFlux := rfl
@[simp] theorem stageSample_tFlags : (stageSample v s).tFlags = s.tFlags := rfl
@[simp] theorem stageSample_wNc : (stageSample v s).wNc = s.wNc := rfl
@[simp] theorem stageSample_wDombin : (stageSample v s).wDombin = s.wDombin := rfl
@[simp] theorem stageSample_wDomf : (stageSample v s).wDomf = s.wDomf := rfl
@[simp] theorem stageSample_wc : (stageSample v s).wc = s.wc := rfl
@[simp] theorem stageSample_bank : (stageSample v s).bank = s.bank := rfl
@[simp] theorem stageSample_cand : (stageSample v s).cand = s.cand := rfl
@[simp] theorem stageSample_mem : (stageSample v s).mem = s.mem := rfl
@[simp] theorem stageSample_stg : (stageSample v s).stg = (if s.stgCnt.toNat < Config.step then s.stg.writeWord (4 * s.stgCnt.toNat) v else s.stg) := rfl
@[simp] theorem stageSample_stgCnt : (stageSample v s).stgCnt = (if s.stgCnt = 255 then 255 else s.stgCnt + 1) := rfl
@[simp] theorem stageSample_faultsSeen : (stageSample v s).faultsSeen = s.faultsSeen := rfl
@[simp] theorem stageSample_refusedMark : (stageSample v s).refusedMark = s.refusedMark := rfl
@[simp] theorem stageSample_resets : (stageSample v s).resets = s.resets := rfl
@[simp] theorem stageSample_turns : (stageSample v s).turns = s.turns := rfl
@[simp] theorem stageSample_waitFrom : (stageSample v s).waitFrom = s.waitFrom := rfl
@[simp] theorem stageSample_sched : (stageSample v s).sched = s.sched := rfl
@[simp] theorem stageSample_turn : (stageSample v s).turn = s.turn := rfl
@[simp] theorem stageSample_hostProg : (stageSample v s).hostProg = s.hostProg := rfl
@[simp] theorem stageSample_producerProg : (stageSample v s).producerProg = s.producerProg := rfl
@[simp] theorem stageSample_readerProg : (stageSample v s).readerProg = s.readerProg := rfl
@[simp] theorem stageSample_busData : (stageSample v s).busData = s.busData := rfl
@[simp] theorem stageSample_busError : (stageSample v s).busError = s.busError := rfl
end OfStageSample

section OfRingStore
variable (ws : List Word)
@[simp] theorem ringStore_auto : (ringStore ws s).auto = s.auto := rfl
@[simp] theorem ringStore_mode : (ringStore ws s).mode = s.mode := rfl
@[simp] theorem ringStore_cbusy : (ringStore ws s).cbusy = s.cbusy := rfl
@[simp] theorem ringStore_cwait : (ringStore ws s).cwait = s.cwait := rfl
@[simp] theorem ringStore_cstage : (ringStore ws s).cstage = s.cstage := rfl
@[simp] theorem ringStore_curcmd : (ringStore ws s).curcmd = s.curcmd := rfl
@[simp] theorem ringStore_w : (ringStore ws s).w = s.w := rfl
@[simp] theorem ringStore_r : (ringStore ws s).r = s.r := rfl
@[simp] theorem ringStore_ovrcnt : (ringStore ws s).ovrcnt = s.ovrcnt := rfl
@[simp] theorem ringStore_igncnt : (ringStore ws s).igncnt = s.igncnt := rfl
@[simp] theorem ringStore_fault : (ringStore ws s).fault = s.fault := rfl
@[simp] theorem ringStore_fcause : (ringStore ws s).fcause = s.fcause := rfl
@[simp] theorem ringStore_finfo : (ringStore ws s).finfo = s.finfo := rfl
@[simp] theorem ringStore_irqEn : (ringStore ws s).irqEn = s.irqEn := rfl
@[simp] theorem ringStore_irqPend : (ringStore ws s).irqPend = s.irqPend := rfl
@[simp] theorem ringStore_cfg : (ringStore ws s).cfg = s.cfg := rfl
@[simp] theorem ringStore_lat : (ringStore ws s).lat = s.lat := rfl
@[simp] theorem ringStore_prevRms : (ringStore ws s).prevRms = s.prevRms := rfl
@[simp] theorem ringStore_wfloor : (ringStore ws s).wfloor = s.wfloor := rfl
@[simp] theorem ringStore_wfirst : (ringStore ws s).wfirst = s.wfirst := rfl
@[simp] theorem ringStore_wend : (ringStore ws s).wend = s.wend := rfl
@[simp] theorem ringStore_lag : (ringStore ws s).lag = s.lag := rfl
@[simp] theorem ringStore_tRms : (ringStore ws s).tRms = s.tRms := rfl
@[simp] theorem ringStore_tFlux : (ringStore ws s).tFlux = s.tFlux := rfl
@[simp] theorem ringStore_tFlags : (ringStore ws s).tFlags = s.tFlags := rfl
@[simp] theorem ringStore_wNc : (ringStore ws s).wNc = s.wNc := rfl
@[simp] theorem ringStore_wDombin : (ringStore ws s).wDombin = s.wDombin := rfl
@[simp] theorem ringStore_wDomf : (ringStore ws s).wDomf = s.wDomf := rfl
@[simp] theorem ringStore_wc : (ringStore ws s).wc = s.wc := rfl
@[simp] theorem ringStore_bank : (ringStore ws s).bank = s.bank := rfl
@[simp] theorem ringStore_cand : (ringStore ws s).cand = s.cand := rfl
@[simp] theorem ringStore_stg : (ringStore ws s).stg = s.stg := rfl
@[simp] theorem ringStore_stgCnt : (ringStore ws s).stgCnt = s.stgCnt := rfl
@[simp] theorem ringStore_faultsSeen : (ringStore ws s).faultsSeen = s.faultsSeen := rfl
@[simp] theorem ringStore_refusedMark : (ringStore ws s).refusedMark = s.refusedMark := rfl
@[simp] theorem ringStore_resets : (ringStore ws s).resets = s.resets := rfl
@[simp] theorem ringStore_turns : (ringStore ws s).turns = s.turns := rfl
@[simp] theorem ringStore_waitFrom : (ringStore ws s).waitFrom = s.waitFrom := rfl
@[simp] theorem ringStore_sched : (ringStore ws s).sched = s.sched := rfl
@[simp] theorem ringStore_turn : (ringStore ws s).turn = s.turn := rfl
@[simp] theorem ringStore_hostProg : (ringStore ws s).hostProg = s.hostProg := rfl
@[simp] theorem ringStore_producerProg : (ringStore ws s).producerProg = s.producerProg := rfl
@[simp] theorem ringStore_readerProg : (ringStore ws s).readerProg = s.readerProg := rfl
@[simp] theorem ringStore_busData : (ringStore ws s).busData = s.busData := rfl
@[simp] theorem ringStore_busError : (ringStore ws s).busError = s.busError := rfl
end OfRingStore

section OfCommitFrame
@[simp] theorem commitFrame_auto : (commitFrame s).auto = s.auto := rfl
@[simp] theorem commitFrame_mode : (commitFrame s).mode = s.mode := rfl
@[simp] theorem commitFrame_cbusy : (commitFrame s).cbusy = s.cbusy := rfl
@[simp] theorem commitFrame_cwait : (commitFrame s).cwait = s.cwait := rfl
@[simp] theorem commitFrame_cstage : (commitFrame s).cstage = s.cstage := rfl
@[simp] theorem commitFrame_curcmd : (commitFrame s).curcmd = s.curcmd := rfl
@[simp] theorem commitFrame_w : (commitFrame s).w = s.w + 128 := rfl
@[simp] theorem commitFrame_r : (commitFrame s).r = s.r := rfl
@[simp] theorem commitFrame_ovrcnt : (commitFrame s).ovrcnt = s.ovrcnt := rfl
@[simp] theorem commitFrame_igncnt : (commitFrame s).igncnt = s.igncnt := rfl
@[simp] theorem commitFrame_fault : (commitFrame s).fault = s.fault := rfl
@[simp] theorem commitFrame_fcause : (commitFrame s).fcause = s.fcause := rfl
@[simp] theorem commitFrame_finfo : (commitFrame s).finfo = s.finfo := rfl
@[simp] theorem commitFrame_irqEn : (commitFrame s).irqEn = s.irqEn := rfl
@[simp] theorem commitFrame_irqPend : (commitFrame s).irqPend = s.irqPend ||| IrqSource.stepAvail.mask := rfl
@[simp] theorem commitFrame_cfg : (commitFrame s).cfg = s.cfg := rfl
@[simp] theorem commitFrame_lat : (commitFrame s).lat = s.lat := rfl
@[simp] theorem commitFrame_prevRms : (commitFrame s).prevRms = s.prevRms := rfl
@[simp] theorem commitFrame_wfloor : (commitFrame s).wfloor = s.wfloor := rfl
@[simp] theorem commitFrame_wfirst : (commitFrame s).wfirst = s.wfirst := rfl
@[simp] theorem commitFrame_wend : (commitFrame s).wend = s.wend := rfl
@[simp] theorem commitFrame_lag : (commitFrame s).lag = s.lag := rfl
@[simp] theorem commitFrame_tRms : (commitFrame s).tRms = s.tRms := rfl
@[simp] theorem commitFrame_tFlux : (commitFrame s).tFlux = s.tFlux := rfl
@[simp] theorem commitFrame_tFlags : (commitFrame s).tFlags = s.tFlags := rfl
@[simp] theorem commitFrame_wNc : (commitFrame s).wNc = s.wNc := rfl
@[simp] theorem commitFrame_wDombin : (commitFrame s).wDombin = s.wDombin := rfl
@[simp] theorem commitFrame_wDomf : (commitFrame s).wDomf = s.wDomf := rfl
@[simp] theorem commitFrame_wc : (commitFrame s).wc = s.wc := rfl
@[simp] theorem commitFrame_bank : (commitFrame s).bank = s.bank := rfl
@[simp] theorem commitFrame_cand : (commitFrame s).cand = s.cand := rfl
@[simp] theorem commitFrame_mem : (commitFrame s).mem = (ringStore s.stagedFrame s).mem := rfl
@[simp] theorem commitFrame_stg : (commitFrame s).stg = s.stg := rfl
@[simp] theorem commitFrame_stgCnt : (commitFrame s).stgCnt = 0 := rfl
@[simp] theorem commitFrame_faultsSeen : (commitFrame s).faultsSeen = s.faultsSeen := rfl
@[simp] theorem commitFrame_refusedMark : (commitFrame s).refusedMark = s.refusedMark := rfl
@[simp] theorem commitFrame_resets : (commitFrame s).resets = s.resets := rfl
@[simp] theorem commitFrame_turns : (commitFrame s).turns = s.turns := rfl
@[simp] theorem commitFrame_waitFrom : (commitFrame s).waitFrom = s.waitFrom := rfl
@[simp] theorem commitFrame_sched : (commitFrame s).sched = s.sched := rfl
@[simp] theorem commitFrame_turn : (commitFrame s).turn = s.turn := rfl
@[simp] theorem commitFrame_hostProg : (commitFrame s).hostProg = s.hostProg := rfl
@[simp] theorem commitFrame_producerProg : (commitFrame s).producerProg = s.producerProg := rfl
@[simp] theorem commitFrame_readerProg : (commitFrame s).readerProg = s.readerProg := rfl
@[simp] theorem commitFrame_busData : (commitFrame s).busData = s.busData := rfl
@[simp] theorem commitFrame_busError : (commitFrame s).busError = s.busError := rfl
end OfCommitFrame

section OfTakeSnapshot
@[simp] theorem takeSnapshot_auto : (takeSnapshot s).auto = s.auto := rfl
@[simp] theorem takeSnapshot_mode : (takeSnapshot s).mode = s.mode := rfl
@[simp] theorem takeSnapshot_cbusy : (takeSnapshot s).cbusy = s.cbusy := rfl
@[simp] theorem takeSnapshot_cwait : (takeSnapshot s).cwait = false := rfl
@[simp] theorem takeSnapshot_cstage : (takeSnapshot s).cstage = s.cstage := rfl
@[simp] theorem takeSnapshot_curcmd : (takeSnapshot s).curcmd = s.curcmd := rfl
@[simp] theorem takeSnapshot_w : (takeSnapshot s).w = s.w := rfl
@[simp] theorem takeSnapshot_r : (takeSnapshot s).r = s.w := rfl
@[simp] theorem takeSnapshot_ovrcnt : (takeSnapshot s).ovrcnt = s.ovrcnt := rfl
@[simp] theorem takeSnapshot_igncnt : (takeSnapshot s).igncnt = s.igncnt := rfl
@[simp] theorem takeSnapshot_fault : (takeSnapshot s).fault = s.fault := rfl
@[simp] theorem takeSnapshot_fcause : (takeSnapshot s).fcause = s.fcause := rfl
@[simp] theorem takeSnapshot_finfo : (takeSnapshot s).finfo = s.finfo := rfl
@[simp] theorem takeSnapshot_irqEn : (takeSnapshot s).irqEn = s.irqEn := rfl
@[simp] theorem takeSnapshot_irqPend : (takeSnapshot s).irqPend = s.irqPend := rfl
@[simp] theorem takeSnapshot_cfg : (takeSnapshot s).cfg = s.cfg := rfl
@[simp] theorem takeSnapshot_lat : (takeSnapshot s).lat = s.lat := rfl
@[simp] theorem takeSnapshot_prevRms : (takeSnapshot s).prevRms = s.prevRms := rfl
@[simp] theorem takeSnapshot_wfloor : (takeSnapshot s).wfloor = s.wfloor := rfl
@[simp] theorem takeSnapshot_wfirst : (takeSnapshot s).wfirst = s.wfirst := rfl
@[simp] theorem takeSnapshot_wend : (takeSnapshot s).wend = s.w := rfl
@[simp] theorem takeSnapshot_lag : (takeSnapshot s).lag = BitVec.ofNat 32 s.avail := rfl
@[simp] theorem takeSnapshot_tRms : (takeSnapshot s).tRms = s.tRms := rfl
@[simp] theorem takeSnapshot_tFlux : (takeSnapshot s).tFlux = s.tFlux := rfl
@[simp] theorem takeSnapshot_tFlags : (takeSnapshot s).tFlags = s.tFlags := rfl
@[simp] theorem takeSnapshot_wNc : (takeSnapshot s).wNc = s.wNc := rfl
@[simp] theorem takeSnapshot_wDombin : (takeSnapshot s).wDombin = s.wDombin := rfl
@[simp] theorem takeSnapshot_wDomf : (takeSnapshot s).wDomf = s.wDomf := rfl
@[simp] theorem takeSnapshot_wc : (takeSnapshot s).wc = s.wc := rfl
@[simp] theorem takeSnapshot_bank : (takeSnapshot s).bank = s.bank := rfl
@[simp] theorem takeSnapshot_cand : (takeSnapshot s).cand = s.cand := rfl
@[simp] theorem takeSnapshot_mem : (takeSnapshot s).mem = s.mem.writeWords (Region.win.addr 0) s.ringWindow := rfl
@[simp] theorem takeSnapshot_stg : (takeSnapshot s).stg = s.stg := rfl
@[simp] theorem takeSnapshot_stgCnt : (takeSnapshot s).stgCnt = s.stgCnt := rfl
@[simp] theorem takeSnapshot_faultsSeen : (takeSnapshot s).faultsSeen = s.faultsSeen := rfl
@[simp] theorem takeSnapshot_refusedMark : (takeSnapshot s).refusedMark = s.refusedMark := rfl
@[simp] theorem takeSnapshot_resets : (takeSnapshot s).resets = s.resets := rfl
@[simp] theorem takeSnapshot_turns : (takeSnapshot s).turns = s.turns := rfl
@[simp] theorem takeSnapshot_waitFrom : (takeSnapshot s).waitFrom = s.waitFrom := rfl
@[simp] theorem takeSnapshot_sched : (takeSnapshot s).sched = s.sched := rfl
@[simp] theorem takeSnapshot_turn : (takeSnapshot s).turn = s.turn := rfl
@[simp] theorem takeSnapshot_hostProg : (takeSnapshot s).hostProg = s.hostProg := rfl
@[simp] theorem takeSnapshot_producerProg : (takeSnapshot s).producerProg = s.producerProg := rfl
@[simp] theorem takeSnapshot_readerProg : (takeSnapshot s).readerProg = s.readerProg := rfl
@[simp] theorem takeSnapshot_busData : (takeSnapshot s).busData = s.busData := rfl
@[simp] theorem takeSnapshot_busError : (takeSnapshot s).busError = s.busError := rfl
end OfTakeSnapshot

end Sys2Proof.Machine
end

