-- ==== Sys2Proof/Laws/Ops.lean ====
section
/-! SUPPORT. What each shared operation can do, said once: acceptance, completion, teardown, bus reads and writes, the
choice of the agent, and a step. Proofs cite these instead of unfolding. -/

namespace Sys2Proof.Machine

/-- `finish()` frees the sequencer; a session that was stopping is then idle, with STOPPED pending (R119). -/
theorem finish_cases (s : State) :
    (s.mode = .stopping ∧
        finish s = goIdle { s with cbusy := false, cwait := false, cstage := .none, curcmd := 0 }) ∨
      (s.mode ≠ .stopping ∧
        finish s = { s with cbusy := false, cwait := false, cstage := .none, curcmd := 0 }) := by
  unfold finish
  split
  · exact .inl ⟨‹_›, rfl⟩
  · exact .inr ⟨‹_›, rfl⟩

/-- A teardown request (R127, R128). -/
theorem requestTeardown_cases (s : State) :
    (s.cbusy = true ∧ requestTeardown s = { s with mode := .stopping }) ∨
      (s.cbusy = false ∧ requestTeardown s = goIdle s) := by
  unfold requestTeardown
  cases h : s.cbusy
  · exact .inr ⟨rfl, by simp⟩
  · exact .inl ⟨rfl, by simp⟩

/-- Acceptance refuses for AUTO, then for BUSY, then for STATE, and else starts the command (R118). -/
theorem accept_cases (i : Instr) (first : Stage) (s : State) :
    (s.auto = true ∧ accept i first s = raiseFault .notallowed (encode i) s) ∨
      (s.auto = false ∧ s.cbusy = true ∧ accept i first s = raiseFault .busy (encode i) s) ∨
      (s.auto = false ∧ s.cbusy = false ∧ s.mode ≠ .running ∧
        accept i first s = raiseFault .notallowed (encode i) s) ∨
      (s.auto = false ∧ s.cbusy = false ∧ s.mode = .running ∧ accept i first s = startCommand i first s) := by
  unfold accept
  cases ha : s.auto
  · cases hb : s.cbusy
    · by_cases hm : s.mode = .running
      · exact .inr (.inr (.inr ⟨rfl, rfl, hm, by simp [hm]⟩))
      · exact .inr (.inr (.inl ⟨rfl, rfl, hm, by simp [hm]⟩))
    · exact .inr (.inl ⟨rfl, rfl, by simp⟩)
  · exact .inl ⟨rfl, by simp⟩

/-- The event is the sequencer's, on this command. -/
theorem State.executing_iff (s : State) (i : Instr) :
    s.executing i = true ↔ s.turn = .sequencer ∧ s.cbusy = true ∧ s.curcmd = encode i := by
  simp [State.executing, and_assoc]

/-- A command of one stage: its event and `finish()`, or its arrival. -/
theorem singleStage_cases (i : Instr) (st : Stage) (event : State → State) (s : State) :
    (s.executing i = true ∧ singleStage i st event s = finish (event s)) ∨
      (s.executing i = false ∧ singleStage i st event s = accept i st s) := by
  unfold singleStage
  cases h : s.executing i
  · exact .inr ⟨rfl, by simp⟩
  · exact .inl ⟨rfl, by simp⟩

/-- What the sequencer's event of a STEP does at each stage (R121). -/
theorem stepStage_cases (s : State) :
    (s.cstage = .none ∧ stepStage s = .fault .lostCommand) ∨
    (s.cstage = .snapshot ∧ s.snapshotReady = false ∧ stepStage s = .next s) ∨
    (s.cstage = .snapshot ∧ s.snapshotReady = true ∧ s.mode ≠ .running ∧ stepStage s = .next (finish s)) ∨
    (s.cstage = .snapshot ∧ s.snapshotReady = true ∧ s.mode = .running ∧
      stepStage s = .next (advance .transient (takeSnapshot s))) ∨
    (s.cstage = .transient ∧ stepStage s = .next (advance .window (transientEvent s))) ∨
    (s.cstage = .window ∧ stepStage s = .next (advance .zeropad (windowEvent s))) ∨
    (s.cstage = .zeropad ∧ stepStage s = .next (advance .fft (zeropadEvent s))) ∨
    (s.cstage = .fft ∧ stepStage s = .next (advance .mag (fftEvent s))) ∨
    (s.cstage = .mag ∧ stepStage s = .next (advance .whiten (magEvent s))) ∨
    (s.cstage = .whiten ∧ stepStage s = .next (advance .solve (whitenEvent s))) ∨
    (s.cstage = .solve ∧ stepStage s = .next (advance .publish (solveEvent s))) ∨
    (s.cstage = .publish ∧ stepStage s = .next (finish (publishEvent s))) := by
  unfold stepStage
  cases hc : s.cstage <;> try simp
  cases hr : s.snapshotReady
  · simp
  · by_cases hm : s.mode = .running <;> simp [hm]

/-- What PUSH does (R93). -/
theorem execPush_cases (ch : BitVec 8) (s : State) :
    (s.mode ≠ .running ∧ execPush ch s = .next (ignorePush s)) ∨
    (s.mode = .running ∧ channelCount ch ≠ 1 ∧
      execPush ch s = .next (rejectFrame .malCh (channelCount ch) s)) ∨
    (s.mode = .running ∧ channelCount ch = 1 ∧ s.stgCnt ≠ 128 ∧
      execPush ch s = .next (rejectFrame .malLen (s.stgCnt.zeroExtend 32) s)) ∨
    (s.mode = .running ∧ channelCount ch = 1 ∧ s.stgCnt = 128 ∧
      execPush ch s = .next (commitFrame (overrunCheck s))) := by
  unfold execPush
  by_cases hm : s.mode = .running
  · by_cases hc : channelCount ch = 1
    · by_cases hn : s.stgCnt = 128
      · exact .inr (.inr (.inr ⟨hm, hc, hn, by rw [if_neg (not_not.mpr hm), if_neg (not_not.mpr hc), if_neg (not_not.mpr hn)]⟩))
      · exact .inr (.inr (.inl ⟨hm, hc, hn, by rw [if_neg (not_not.mpr hm), if_neg (not_not.mpr hc), if_pos hn]⟩))
    · exact .inr (.inl ⟨hm, hc, by rw [if_neg (not_not.mpr hm), if_pos hc]⟩)
  · exact .inl ⟨hm, by simp [hm]⟩

/-- What the overrun check does (R94). -/
theorem overrunCheck_cases (s : State) :
    (Config.cap ≤ s.lagSamples ∧
        overrunCheck s = pend .overrun { s with r := s.r + 128, ovrcnt := satInc s.ovrcnt }) ∨
      (s.lagSamples < Config.cap ∧ overrunCheck s = s) := by
  unfold overrunCheck
  split
  · exact .inl ⟨‹_›, rfl⟩
  · exact .inr ⟨by omega, rfl⟩

/-- What START does (R124). -/
theorem execStart_cases (s : State) :
    (s.mode ≠ .idle ∧ execStart s = .next (raiseFault .notallowed (encode .start) s)) ∨
    (∃ c, s.mode = .idle ∧ firstIllegal s.cfg = some c ∧
      execStart s = .next (raiseFault .config (BitVec.ofNat 32 c.addr) s)) ∨
    (s.mode = .idle ∧ firstIllegal s.cfg = none ∧
      execStart s = .next { startInit (latch s.cfg) s with mode := .running }) := by
  unfold execStart
  by_cases hm : s.mode = .idle
  · cases hf : firstIllegal s.cfg with
    | some c => exact .inr (.inl ⟨c, hm, rfl, by simp [hm]⟩)
    | none => exact .inr (.inr ⟨hm, rfl, by simp [hm]⟩)
  · exact .inl ⟨hm, by simp [hm]⟩

/-- What a bus read does: an answer, or BusError (R72, R75). -/
theorem busRead_cases (a : Addr) (size : Nat) (s : State) :
    (∃ v, wellFormedAccess a size = true ∧ s.readLocation a = some v ∧ busRead a size s = answer v s) ∨
      ((wellFormedAccess a size = false ∨ s.readLocation a = none) ∧ busRead a size s = raiseBusError a s) := by
  unfold busRead
  cases hw : wellFormedAccess a size
  · exact .inr ⟨.inl rfl, by simp⟩
  · cases hr : s.readLocation a with
    | none => exact .inr ⟨.inr rfl, by simp⟩
    | some v => exact .inl ⟨v, rfl, rfl, by simp⟩

/-- A word at a port is a command or ILLEGAL (R88, R89). -/
theorem submit_cases (p : Port) (w : Word) (s : State) :
    (∃ i, decode p w = .ok i ∧ submit p w s = exec i s) ∨
      (∃ e, decode p w = .error e ∧ submit p w s = .next (raiseFault .illegal w s)) := by
  unfold submit
  cases decode p w with
  | ok i => exact .inl ⟨i, rfl, rfl⟩
  | error e => exact .inr ⟨e, rfl, rfl⟩

/-- What a bus write does (R69, R71, R72). -/
theorem busWrite_cases (a : Addr) (size : Nat) (v : Word) (s : State) :
    (wellFormedAccess a size = false ∧ busWrite a size v s = .next (raiseBusError a s)) ∨
    (∃ p, wellFormedAccess a size = true ∧ locate s.lat a.toNat = .reg (.port p) ∧
      busWrite a size v s = submit p v (answer 0 s)) ∨
    (∃ r, wellFormedAccess a size = true ∧ locate s.lat a.toNat = .reg r ∧ (∀ p, r ≠ .port p) ∧
      busWrite a size v s = .next (writeReg a r v (answer 0 s))) ∨
    (∃ g, wellFormedAccess a size = true ∧ locate s.lat a.toNat = .elem g ∧
      busWrite a size v s = .next (writeElem a g v (answer 0 s))) ∨
    (wellFormedAccess a size = true ∧ locate s.lat a.toNat = .unassigned ∧
      busWrite a size v s = .next (raiseBusError a s)) := by
  unfold busWrite
  cases hw : wellFormedAccess a size
  · exact .inl ⟨rfl, by simp⟩
  · cases hl : locate s.lat a.toNat with
    | reg r =>
      cases r with
      | port p => exact .inr (.inl ⟨p, rfl, rfl, by simp⟩)
      | _ => exact .inr (.inr (.inl ⟨_, rfl, rfl, by simp, by simp⟩))
    | elem g => exact .inr (.inr (.inr (.inl ⟨g, rfl, rfl, by simp⟩)))
    | unassigned => exact .inr (.inr (.inr (.inr ⟨rfl, rfl, by simp⟩)))

/-- Only an agent with an enabled event is due. -/
theorem sequencerDue_enabled {s : State} (h : s.sequencerDue = true) : s.enabled .sequencer = true := by
  simp only [State.sequencerDue, Bool.and_eq_true] at h
  exact h.1

/-- A choice made beyond the schedule: an enabled agent, the sequencer if it is due (R17). -/
theorem chooseAgent_beyond {s t : State} {who : Agent} (hd : s.sched.dropWhile (fun a => !s.enabled a) = [])
    (h : chooseAgent s = some (who, t)) :
    s.enabled who = true ∧ t = s.countChoice who ∧ (s.sequencerDue = true → who = .sequencer) := by
  simp only [chooseAgent, hd] at h
  split at h
  · exact absurd h (by simp)
  · rename_i a he
    simp only [Option.some.injEq, Prod.mk.injEq] at h
    obtain ⟨rfl, rfl⟩ := h
    have ha : a ∈ s.enabledAgents := by simp [he]
    refine ⟨(List.mem_filter.mp ha).2, rfl, fun hdue => ?_⟩
    have hs : Agent.sequencer ∈ s.enabledAgents := List.mem_filter.mpr ⟨by simp, sequencerDue_enabled hdue⟩
    rw [he] at hs
    exact (List.mem_singleton.mp hs).symm
  · rename_i a b more he
    simp only [Option.some.injEq, Prod.mk.injEq] at h
    obtain ⟨hw, rfl⟩ := h
    rw [hw]
    refine ⟨?_, rfl, fun hdue => by rw [← hw, if_pos hdue]⟩
    split at hw
    · rw [← hw]; exact sequencerDue_enabled ‹_›
    · have hlt : Config.schedule s.turns % (more.length + 2) < (a :: b :: more).length := by
        simp only [List.length_cons]; exact Nat.mod_lt _ (by omega)
      have : who ∈ s.enabledAgents := by
        rw [he, ← hw, List.getD_eq_getElem _ _ hlt]; exact List.getElem_mem hlt
      exact (List.mem_filter.mp this).2

/-- A chosen agent has an enabled event; the choice uses up a part of the schedule, or is counted beyond its end. -/
theorem chooseAgent_cases {s t : State} {who : Agent} (h : chooseAgent s = some (who, t)) :
    s.enabled who = true ∧
      ((∃ rest, rest.length < s.sched.length ∧ t = { s with sched := rest }) ∨
        (t = s.countChoice who ∧ (s.sequencerDue = true → who = .sequencer))) := by
  cases hd : s.sched.dropWhile (fun a => !s.enabled a) with
  | nil =>
    obtain ⟨h1, h2, h3⟩ := chooseAgent_beyond hd h
    exact ⟨h1, .inr ⟨h2, h3⟩⟩
  | cons a rest =>
    simp only [chooseAgent, hd, Option.some.injEq, Prod.mk.injEq] at h
    obtain ⟨rfl, rfl⟩ := h
    have he := List.head?_dropWhile_not (fun a => !s.enabled a) s.sched
    have hl := (List.dropWhile_suffix (fun a => !s.enabled a) (l := s.sched)).length_le
    rw [hd, List.length_cons] at hl
    exact ⟨by simpa [hd] using he, .inl ⟨rest, by omega, rfl⟩⟩

/-- A choice changes only the schedule, the count of choices and the start of the sequencer's wait. -/
theorem chooseAgent_some {s t : State} {who : Agent} (h : chooseAgent s = some (who, t)) :
    s.enabled who = true ∧ ∃ l n m, t = { s with sched := l, turns := n, waitFrom := m } := by
  obtain ⟨he, ⟨rest, _, rfl⟩ | ⟨rfl, _⟩⟩ := chooseAgent_cases h
  · exact ⟨he, rest, s.turns, s.waitFrom, rfl⟩
  · exact ⟨he, [], s.turns + 1, _, rfl⟩

/-- A choice that passes an enabled sequencer over uses up a part of the schedule, or one of the choices its wait still has
(R17). -/
theorem chooseAgent_passing {s t : State} {who : Agent} (h : chooseAgent s = some (who, t))
    (he : s.enabled .sequencer = true) (hw : who ≠ .sequencer) :
    t.waitFrom = s.waitFrom ∧
      ((t.sched.length < s.sched.length ∧ t.turns = s.turns) ∨
        (t.sched = [] ∧ t.turns = s.turns + 1 ∧ s.turns < s.waitFrom + Config.patience s.waitFrom)) := by
  have hr : s.sequencerReady = true := he
  obtain ⟨_, ⟨rest, hl, rfl⟩ | ⟨rfl, hdue⟩⟩ := chooseAgent_cases h
  · exact ⟨rfl, .inl ⟨hl, rfl⟩⟩
  · refine ⟨by simp [State.countChoice, hr, hw], .inr ⟨rfl, rfl, ?_⟩⟩
    by_contra hn
    exact hw (hdue (by simp [State.sequencerDue, hr]; omega))

/-- The schedule's first agent moves if it has an enabled event. -/
theorem chooseAgent_head {s : State} {who : Agent} {rest : List Agent} (hs : s.sched = who :: rest)
    (he : s.enabled who = true) : chooseAgent s = some (who, { s with sched := rest }) := by
  simp [chooseAgent, hs, he]

/-- A run with an enabled sequencer is not stuck. -/
theorem not_stalled_of_ready {s : State} (h : s.enabled .sequencer = true) : s.stalled = false := by
  simp [State.stalled, State.held, show s.sequencerReady = true from h]

/-- A run in which an agent stands at a read or a write is not stuck. -/
theorem not_stalled_of_head {s : State} {who : Agent} {op : AgentOp} {rest : List AgentOp}
    (hp : s.prog who = op :: rest) (hop : ∀ a mask val, op ≠ .poll a mask val) : s.stalled = false := by
  have hw : s.waits who = false := by
    unfold State.waits
    rw [hp]
    cases op with
    | poll a mask val => exact absurd rfl (hop a mask val)
    | _ => rfl
  cases who with
  | sequencer => exact absurd hp (by simp [State.prog])
  | _ => simp [State.stalled, hw]

/-- A step is one event of the chosen agent, in a run that is not stuck. -/
theorem step_cases {s u : State} (h : step s = .next u) :
    s.stalled = false ∧
      ∃ who t, chooseAgent s = some (who, t) ∧ agentEvent who { t with turn := who } = .next u := by
  unfold step at h
  split at h
  · exact absurd h (by simp)
  · split at h
    · exact absurd h (by simp)
    · exact ⟨by simpa using ‹¬s.stalled = true›, _, _, ‹_›, h⟩

/-- A step at which the schedule names an agent with an enabled event. -/
theorem step_of_sched {s : State} {who : Agent} {rest : List Agent} (hs : s.sched = who :: rest)
    (he : s.enabled who = true) (hst : s.stalled = false) :
    step s = agentEvent who { s with sched := rest, turn := who } := by
  simp [step, hst, chooseAgent_head hs he]

/-- The mark of a write's sender is the only thing its role changes (R141). -/
theorem markRole_eq (who : Agent) (a : Addr) (size : Nat) (s : State) :
    markRole who a size s = { s with refusedMark := s.refusedMark || outsideRole who a size } := by
  unfold markRole
  cases outsideRole who a size <;> simp

/-- A write within its sender's role is not marked. -/
theorem markRole_within {who : Agent} {a : Addr} {size : Nat} (h : outsideRole who a size = false) (s : State) :
    markRole who a size s = s := by
  simp [markRole, h]

/-- What one operation of a program does. -/
theorem performOp_cases (who : Agent) (op : AgentOp) (rest : List AgentOp) (s : State) :
    (∃ a size v, op = .write a size v ∧
      performOp who op rest s = busWrite a size v (markRole who a size (s.setProg who rest))) ∨
    (∃ a size, op = .read a size ∧ performOp who op rest s = .next (busRead a size (s.setProg who rest))) ∨
    (∃ a mask val, op = .poll a mask val ∧
      performOp who op rest s =
        .next (if (busRead a 4 s).busData &&& mask = val then (busRead a 4 s).setProg who rest
               else busRead a 4 s)) := by
  cases op with
  | write a size v => exact .inl ⟨a, size, v, rfl, rfl⟩
  | read a size => exact .inr (.inl ⟨a, size, rfl, rfl⟩)
  | poll a mask val => exact .inr (.inr ⟨a, mask, val, rfl, rfl⟩)

/-- The sequencer's event: an AUTO start, the command in curcmd, or a command no run loses. -/
theorem sequencerEvent_cases (s : State) :
    (s.cbusy = false ∧ sequencerEvent s = .next (autoStart s)) ∨
    (∃ i, s.cbusy = true ∧ decode .ccmd s.curcmd = .ok i ∧ i ≠ .nop ∧ sequencerEvent s = exec i s) ∨
    (s.cbusy = true ∧ sequencerEvent s = .fault .lostCommand) := by
  unfold sequencerEvent
  cases hb : s.cbusy
  · exact .inl ⟨rfl, by simp⟩
  · cases hd : decode .ccmd s.curcmd with
    | error e => exact .inr (.inr ⟨rfl, by simp⟩)
    | ok i =>
      by_cases hi : i = .nop
      · exact .inr (.inr ⟨rfl, by simp [hi]⟩)
      · exact .inr (.inl ⟨i, rfl, rfl, hi, by simp [hi]⟩)

end Sys2Proof.Machine
end

