-- ==== Sys2Proof/Laws/PerInstr.lean ====
section
/-! SUPPORT. Statements about every command as syntax, one lemma per constructor: decoding a well-formed command's word at
its own port gives the command back (R85 to R88). -/

namespace Sys2Proof

@[simp] theorem rsvField_cmdWord (arg opc : BitVec 8) : rsvField (cmdWord arg opc) = 0 := by
  apply BitVec.eq_of_getLsbD_eq
  intro i hi
  simp only [rsvField, cmdWord, BitVec.getLsbD_extractLsb', BitVec.getLsbD_or, BitVec.getLsbD_shiftLeft,
    BitVec.truncate_eq_setWidth, BitVec.getLsbD_setWidth]
  rw [BitVec.getLsbD_of_ge arg _ (by omega), BitVec.getLsbD_of_ge opc _ (by omega)]
  simp

@[simp] theorem argField_cmdWord (arg opc : BitVec 8) : argField (cmdWord arg opc) = arg := by
  apply BitVec.eq_of_getLsbD_eq
  intro i hi
  simp only [argField, cmdWord, BitVec.getLsbD_extractLsb', BitVec.getLsbD_or, BitVec.getLsbD_shiftLeft,
    BitVec.truncate_eq_setWidth, BitVec.getLsbD_setWidth]
  rw [BitVec.getLsbD_of_ge opc _ (by omega), show 8 + i - 8 = i by omega]
  simp [hi, show 8 + i < 32 by omega, show i < 32 by omega]

@[simp] theorem opcField_cmdWord (arg opc : BitVec 8) : opcField (cmdWord arg opc) = opc := by
  apply BitVec.eq_of_getLsbD_eq
  intro i hi
  simp only [opcField, cmdWord, BitVec.getLsbD_extractLsb', BitVec.getLsbD_or, BitVec.getLsbD_shiftLeft,
    BitVec.truncate_eq_setWidth, BitVec.getLsbD_setWidth]
  simp [hi, show i < 32 by omega]

/-- Decoding a word of the format looks its row up by port and OPC and gives it ARG. -/
theorem decode_cmdWord (p : Port) (arg opc : BitVec 8) :
    decode p (cmdWord arg opc) =
      match opcodeMap.find? (fun row => row.1 == p && row.2.1 == opc) with
      | none => .error .noSuchOpcode
      | some row => row.2.2 arg := by
  simp only [decode, rsvField_cmdWord, argField_cmdWord, opcField_cmdWord, ne_eq, not_true_eq_false, if_false] <;>
    rfl

end Sys2Proof

namespace Sys2Proof.Laws.RoundTrip

/-- A well-formed command's word decodes to it at its own port. -/
def Statement (i : Instr) : Prop := i.WellFormed → decode i.port (encode i) = .ok i

theorem push (ch : BitVec 8) : Statement (.push ch) := fun _ => decode_cmdWord _ _ _
theorem nop : Statement .nop := fun _ => decode_cmdWord _ _ _
theorem snapshot : Statement .snapshot := fun _ => decode_cmdWord _ _ _
theorem transient : Statement .transient := fun _ => decode_cmdWord _ _ _
theorem window : Statement .window := fun _ => decode_cmdWord _ _ _
theorem zeropad : Statement .zeropad := fun _ => decode_cmdWord _ _ _
theorem fft : Statement .fft := fun _ => decode_cmdWord _ _ _
theorem mag : Statement .mag := fun _ => decode_cmdWord _ _ _
theorem whiten : Statement .whiten := fun _ => decode_cmdWord _ _ _
theorem solve : Statement .solve := fun _ => decode_cmdWord _ _ _
theorem publish : Statement .publish := fun _ => decode_cmdWord _ _ _
theorem step : Statement .step := fun _ => decode_cmdWord _ _ _
theorem start : Statement .start := fun _ => decode_cmdWord _ _ _
theorem stop : Statement .stop := fun _ => decode_cmdWord _ _ _
theorem clrfault : Statement .clrfault := fun _ => decode_cmdWord _ _ _
theorem srst (key : BitVec 8) : Statement (.srst key) := by
  intro h
  have hk : key = srstKey := by simpa [Instr.WellFormed, Instr.wellFormed] using h
  subst hk
  exact decode_cmdWord _ _ _

end Sys2Proof.Laws.RoundTrip
end

