-- ==== Sys2Proof/Laws/Stages.lean ====
section
/-! SUPPORT. One lemma per field per stage event, for START's initialisation and for a choice, and that a stage event neither reads nor
writes the sequencer's registers. -/

namespace Sys2Proof.Machine

variable (s : State)

section OfTransientEvent
@[simp] theorem transientEvent_auto : (transientEvent s).auto = s.auto := by unfold transientEvent; rfl
@[simp] theorem transientEvent_mode : (transientEvent s).mode = s.mode := by unfold transientEvent; rfl
@[simp] theorem transientEvent_cbusy : (transientEvent s).cbusy = s.cbusy := by unfold transientEvent; rfl
@[simp] theorem transientEvent_cwait : (transientEvent s).cwait = s.cwait := by unfold transientEvent; rfl
@[simp] theorem transientEvent_cstage : (transientEvent s).cstage = s.cstage := by unfold transientEvent; rfl
@[simp] theorem transientEvent_curcmd : (transientEvent s).curcmd = s.curcmd := by unfold transientEvent; rfl
@[simp] theorem transientEvent_w : (transientEvent s).w = s.w := by unfold transientEvent; rfl
@[simp] theorem transientEvent_r : (transientEvent s).r = s.r := by unfold transientEvent; rfl
@[simp] theorem transientEvent_ovrcnt : (transientEvent s).ovrcnt = s.ovrcnt := by unfold transientEvent; rfl
@[simp] theorem transientEvent_igncnt : (transientEvent s).igncnt = s.igncnt := by unfold transientEvent; rfl
@[simp] theorem transientEvent_fault : (transientEvent s).fault = s.fault := by unfold transientEvent; rfl
@[simp] theorem transientEvent_fcause : (transientEvent s).fcause = s.fcause := by unfold transientEvent; rfl
@[simp] theorem transientEvent_finfo : (transientEvent s).finfo = s.finfo := by unfold transientEvent; rfl
@[simp] theorem transientEvent_irqEn : (transientEvent s).irqEn = s.irqEn := by unfold transientEvent; rfl
@[simp] theorem transientEvent_irqPend : (transientEvent s).irqPend = s.irqPend := by unfold transientEvent; rfl
@[simp] theorem transientEvent_cfg : (transientEvent s).cfg = s.cfg := by unfold transientEvent; rfl
@[simp] theorem transientEvent_lat : (transientEvent s).lat = s.lat := by unfold transientEvent; rfl
@[simp] theorem transientEvent_prevRms : (transientEvent s).prevRms =
    rmsOf s.currentFrame := by simp only [transientEvent]
@[simp] theorem transientEvent_wfloor : (transientEvent s).wfloor = s.wfloor := by unfold transientEvent; rfl
@[simp] theorem transientEvent_wfirst : (transientEvent s).wfirst = s.wfirst := by unfold transientEvent; rfl
@[simp] theorem transientEvent_wend : (transientEvent s).wend = s.wend := by unfold transientEvent; rfl
@[simp] theorem transientEvent_lag : (transientEvent s).lag = s.lag := by unfold transientEvent; rfl
@[simp] theorem transientEvent_tRms : (transientEvent s).tRms =
    rmsOf s.currentFrame := by simp only [transientEvent]
@[simp] theorem transientEvent_tFlux : (transientEvent s).tFlux =
    fsub (rmsOf s.currentFrame) s.prevRms := by simp only [transientEvent]
@[simp] theorem transientEvent_tFlags : (transientEvent s).tFlags =
    { s.tFlags with tdet := fgt (fsub (rmsOf s.currentFrame) s.prevRms) s.cfg.tthr } := by simp only [transientEvent]
@[simp] theorem transientEvent_wNc : (transientEvent s).wNc = s.wNc := by unfold transientEvent; rfl
@[simp] theorem transientEvent_wDombin : (transientEvent s).wDombin = s.wDombin := by unfold transientEvent; rfl
@[simp] theorem transientEvent_wDomf : (transientEvent s).wDomf = s.wDomf := by unfold transientEvent; rfl
@[simp] theorem transientEvent_wc : (transientEvent s).wc = s.wc := by unfold transientEvent; rfl
@[simp] theorem transientEvent_bank : (transientEvent s).bank = s.bank := by unfold transientEvent; rfl
@[simp] theorem transientEvent_cand : (transientEvent s).cand = s.cand := by unfold transientEvent; rfl
@[simp] theorem transientEvent_mem : (transientEvent s).mem = s.mem := by unfold transientEvent; rfl
@[simp] theorem transientEvent_stg : (transientEvent s).stg = s.stg := by unfold transientEvent; rfl
@[simp] theorem transientEvent_stgCnt : (transientEvent s).stgCnt = s.stgCnt := by unfold transientEvent; rfl
@[simp] theorem transientEvent_faultsSeen : (transientEvent s).faultsSeen =
    s.faultsSeen := by unfold transientEvent; rfl
@[simp] theorem transientEvent_refusedMark : (transientEvent s).refusedMark =
    s.refusedMark := by unfold transientEvent; rfl
@[simp] theorem transientEvent_resets : (transientEvent s).resets = s.resets := by unfold transientEvent; rfl
@[simp] theorem transientEvent_turns : (transientEvent s).turns = s.turns := by unfold transientEvent; rfl
@[simp] theorem transientEvent_waitFrom : (transientEvent s).waitFrom = s.waitFrom := by unfold transientEvent; rfl
@[simp] theorem transientEvent_sched : (transientEvent s).sched = s.sched := by unfold transientEvent; rfl
@[simp] theorem transientEvent_turn : (transientEvent s).turn = s.turn := by unfold transientEvent; rfl
@[simp] theorem transientEvent_hostProg : (transientEvent s).hostProg = s.hostProg := by unfold transientEvent; rfl
@[simp] theorem transientEvent_producerProg : (transientEvent s).producerProg =
    s.producerProg := by unfold transientEvent; rfl
@[simp] theorem transientEvent_readerProg : (transientEvent s).readerProg =
    s.readerProg := by unfold transientEvent; rfl
@[simp] theorem transientEvent_busData : (transientEvent s).busData = s.busData := by unfold transientEvent; rfl
@[simp] theorem transientEvent_busError : (transientEvent s).busError = s.busError := by unfold transientEvent; rfl
end OfTransientEvent

section OfWindowEvent
@[simp] theorem windowEvent_auto : (windowEvent s).auto = s.auto := by unfold windowEvent; rfl
@[simp] theorem windowEvent_mode : (windowEvent s).mode = s.mode := by unfold windowEvent; rfl
@[simp] theorem windowEvent_cbusy : (windowEvent s).cbusy = s.cbusy := by unfold windowEvent; rfl
@[simp] theorem windowEvent_cwait : (windowEvent s).cwait = s.cwait := by unfold windowEvent; rfl
@[simp] theorem windowEvent_cstage : (windowEvent s).cstage = s.cstage := by unfold windowEvent; rfl
@[simp] theorem windowEvent_curcmd : (windowEvent s).curcmd = s.curcmd := by unfold windowEvent; rfl
@[simp] theorem windowEvent_w : (windowEvent s).w = s.w := by unfold windowEvent; rfl
@[simp] theorem windowEvent_r : (windowEvent s).r = s.r := by unfold windowEvent; rfl
@[simp] theorem windowEvent_ovrcnt : (windowEvent s).ovrcnt = s.ovrcnt := by unfold windowEvent; rfl
@[simp] theorem windowEvent_igncnt : (windowEvent s).igncnt = s.igncnt := by unfold windowEvent; rfl
@[simp] theorem windowEvent_fault : (windowEvent s).fault = s.fault := by unfold windowEvent; rfl
@[simp] theorem windowEvent_fcause : (windowEvent s).fcause = s.fcause := by unfold windowEvent; rfl
@[simp] theorem windowEvent_finfo : (windowEvent s).finfo = s.finfo := by unfold windowEvent; rfl
@[simp] theorem windowEvent_irqEn : (windowEvent s).irqEn = s.irqEn := by unfold windowEvent; rfl
@[simp] theorem windowEvent_irqPend : (windowEvent s).irqPend = s.irqPend := by unfold windowEvent; rfl
@[simp] theorem windowEvent_cfg : (windowEvent s).cfg = s.cfg := by unfold windowEvent; rfl
@[simp] theorem windowEvent_lat : (windowEvent s).lat = s.lat := by unfold windowEvent; rfl
@[simp] theorem windowEvent_prevRms : (windowEvent s).prevRms = s.prevRms := by unfold windowEvent; rfl
@[simp] theorem windowEvent_wfloor : (windowEvent s).wfloor = s.wfloor := by unfold windowEvent; rfl
@[simp] theorem windowEvent_wfirst : (windowEvent s).wfirst = s.wfirst := by unfold windowEvent; rfl
@[simp] theorem windowEvent_wend : (windowEvent s).wend = s.wend := by unfold windowEvent; rfl
@[simp] theorem windowEvent_lag : (windowEvent s).lag = s.lag := by unfold windowEvent; rfl
@[simp] theorem windowEvent_tRms : (windowEvent s).tRms = s.tRms := by unfold windowEvent; rfl
@[simp] theorem windowEvent_tFlux : (windowEvent s).tFlux = s.tFlux := by unfold windowEvent; rfl
@[simp] theorem windowEvent_tFlags : (windowEvent s).tFlags = s.tFlags := by unfold windowEvent; rfl
@[simp] theorem windowEvent_wNc : (windowEvent s).wNc = s.wNc := by unfold windowEvent; rfl
@[simp] theorem windowEvent_wDombin : (windowEvent s).wDombin = s.wDombin := by unfold windowEvent; rfl
@[simp] theorem windowEvent_wDomf : (windowEvent s).wDomf = s.wDomf := by unfold windowEvent; rfl
@[simp] theorem windowEvent_wc : (windowEvent s).wc = s.wc := by unfold windowEvent; rfl
@[simp] theorem windowEvent_bank : (windowEvent s).bank = s.bank := by unfold windowEvent; rfl
@[simp] theorem windowEvent_cand : (windowEvent s).cand = s.cand := by unfold windowEvent; rfl
@[simp] theorem windowEvent_mem : (windowEvent s).mem =
    s.mem.writeWords (Region.pad.addr 0) (List.zipWith fmul (s.elems .win (Config.winLen - s.lat.alenN) s.lat.alenN) (s.elems .wcoef 0 s.lat.alenN)) := by unfold windowEvent; rfl
@[simp] theorem windowEvent_stg : (windowEvent s).stg = s.stg := by unfold windowEvent; rfl
@[simp] theorem windowEvent_stgCnt : (windowEvent s).stgCnt = s.stgCnt := by unfold windowEvent; rfl
@[simp] theorem windowEvent_faultsSeen : (windowEvent s).faultsSeen = s.faultsSeen := by unfold windowEvent; rfl
@[simp] theorem windowEvent_refusedMark : (windowEvent s).refusedMark = s.refusedMark := by unfold windowEvent; rfl
@[simp] theorem windowEvent_resets : (windowEvent s).resets = s.resets := by unfold windowEvent; rfl
@[simp] theorem windowEvent_turns : (windowEvent s).turns = s.turns := by unfold windowEvent; rfl
@[simp] theorem windowEvent_waitFrom : (windowEvent s).waitFrom = s.waitFrom := by unfold windowEvent; rfl
@[simp] theorem windowEvent_sched : (windowEvent s).sched = s.sched := by unfold windowEvent; rfl
@[simp] theorem windowEvent_turn : (windowEvent s).turn = s.turn := by unfold windowEvent; rfl
@[simp] theorem windowEvent_hostProg : (windowEvent s).hostProg = s.hostProg := by unfold windowEvent; rfl
@[simp] theorem windowEvent_producerProg : (windowEvent s).producerProg =
    s.producerProg := by unfold windowEvent; rfl
@[simp] theorem windowEvent_readerProg : (windowEvent s).readerProg = s.readerProg := by unfold windowEvent; rfl
@[simp] theorem windowEvent_busData : (windowEvent s).busData = s.busData := by unfold windowEvent; rfl
@[simp] theorem windowEvent_busError : (windowEvent s).busError = s.busError := by unfold windowEvent; rfl
end OfWindowEvent

section OfZeropadEvent
@[simp] theorem zeropadEvent_auto : (zeropadEvent s).auto = s.auto := by unfold zeropadEvent; rfl
@[simp] theorem zeropadEvent_mode : (zeropadEvent s).mode = s.mode := by unfold zeropadEvent; rfl
@[simp] theorem zeropadEvent_cbusy : (zeropadEvent s).cbusy = s.cbusy := by unfold zeropadEvent; rfl
@[simp] theorem zeropadEvent_cwait : (zeropadEvent s).cwait = s.cwait := by unfold zeropadEvent; rfl
@[simp] theorem zeropadEvent_cstage : (zeropadEvent s).cstage = s.cstage := by unfold zeropadEvent; rfl
@[simp] theorem zeropadEvent_curcmd : (zeropadEvent s).curcmd = s.curcmd := by unfold zeropadEvent; rfl
@[simp] theorem zeropadEvent_w : (zeropadEvent s).w = s.w := by unfold zeropadEvent; rfl
@[simp] theorem zeropadEvent_r : (zeropadEvent s).r = s.r := by unfold zeropadEvent; rfl
@[simp] theorem zeropadEvent_ovrcnt : (zeropadEvent s).ovrcnt = s.ovrcnt := by unfold zeropadEvent; rfl
@[simp] theorem zeropadEvent_igncnt : (zeropadEvent s).igncnt = s.igncnt := by unfold zeropadEvent; rfl
@[simp] theorem zeropadEvent_fault : (zeropadEvent s).fault = s.fault := by unfold zeropadEvent; rfl
@[simp] theorem zeropadEvent_fcause : (zeropadEvent s).fcause = s.fcause := by unfold zeropadEvent; rfl
@[simp] theorem zeropadEvent_finfo : (zeropadEvent s).finfo = s.finfo := by unfold zeropadEvent; rfl
@[simp] theorem zeropadEvent_irqEn : (zeropadEvent s).irqEn = s.irqEn := by unfold zeropadEvent; rfl
@[simp] theorem zeropadEvent_irqPend : (zeropadEvent s).irqPend = s.irqPend := by unfold zeropadEvent; rfl
@[simp] theorem zeropadEvent_cfg : (zeropadEvent s).cfg = s.cfg := by unfold zeropadEvent; rfl
@[simp] theorem zeropadEvent_lat : (zeropadEvent s).lat = s.lat := by unfold zeropadEvent; rfl
@[simp] theorem zeropadEvent_prevRms : (zeropadEvent s).prevRms = s.prevRms := by unfold zeropadEvent; rfl
@[simp] theorem zeropadEvent_wfloor : (zeropadEvent s).wfloor = s.wfloor := by unfold zeropadEvent; rfl
@[simp] theorem zeropadEvent_wfirst : (zeropadEvent s).wfirst = s.wfirst := by unfold zeropadEvent; rfl
@[simp] theorem zeropadEvent_wend : (zeropadEvent s).wend = s.wend := by unfold zeropadEvent; rfl
@[simp] theorem zeropadEvent_lag : (zeropadEvent s).lag = s.lag := by unfold zeropadEvent; rfl
@[simp] theorem zeropadEvent_tRms : (zeropadEvent s).tRms = s.tRms := by unfold zeropadEvent; rfl
@[simp] theorem zeropadEvent_tFlux : (zeropadEvent s).tFlux = s.tFlux := by unfold zeropadEvent; rfl
@[simp] theorem zeropadEvent_tFlags : (zeropadEvent s).tFlags = s.tFlags := by unfold zeropadEvent; rfl
@[simp] theorem zeropadEvent_wNc : (zeropadEvent s).wNc = s.wNc := by unfold zeropadEvent; rfl
@[simp] theorem zeropadEvent_wDombin : (zeropadEvent s).wDombin = s.wDombin := by unfold zeropadEvent; rfl
@[simp] theorem zeropadEvent_wDomf : (zeropadEvent s).wDomf = s.wDomf := by unfold zeropadEvent; rfl
@[simp] theorem zeropadEvent_wc : (zeropadEvent s).wc = s.wc := by unfold zeropadEvent; rfl
@[simp] theorem zeropadEvent_bank : (zeropadEvent s).bank = s.bank := by unfold zeropadEvent; rfl
@[simp] theorem zeropadEvent_cand : (zeropadEvent s).cand = s.cand := by unfold zeropadEvent; rfl
@[simp] theorem zeropadEvent_mem : (zeropadEvent s).mem =
    s.mem.writeWords (Region.pad.addr s.lat.alenN) (List.replicate (s.lat.nfftN - s.lat.alenN) 0) := by unfold zeropadEvent; rfl
@[simp] theorem zeropadEvent_stg : (zeropadEvent s).stg = s.stg := by unfold zeropadEvent; rfl
@[simp] theorem zeropadEvent_stgCnt : (zeropadEvent s).stgCnt = s.stgCnt := by unfold zeropadEvent; rfl
@[simp] theorem zeropadEvent_faultsSeen : (zeropadEvent s).faultsSeen = s.faultsSeen := by unfold zeropadEvent; rfl
@[simp] theorem zeropadEvent_refusedMark : (zeropadEvent s).refusedMark =
    s.refusedMark := by unfold zeropadEvent; rfl
@[simp] theorem zeropadEvent_resets : (zeropadEvent s).resets = s.resets := by unfold zeropadEvent; rfl
@[simp] theorem zeropadEvent_turns : (zeropadEvent s).turns = s.turns := by unfold zeropadEvent; rfl
@[simp] theorem zeropadEvent_waitFrom : (zeropadEvent s).waitFrom = s.waitFrom := by unfold zeropadEvent; rfl
@[simp] theorem zeropadEvent_sched : (zeropadEvent s).sched = s.sched := by unfold zeropadEvent; rfl
@[simp] theorem zeropadEvent_turn : (zeropadEvent s).turn = s.turn := by unfold zeropadEvent; rfl
@[simp] theorem zeropadEvent_hostProg : (zeropadEvent s).hostProg = s.hostProg := by unfold zeropadEvent; rfl
@[simp] theorem zeropadEvent_producerProg : (zeropadEvent s).producerProg =
    s.producerProg := by unfold zeropadEvent; rfl
@[simp] theorem zeropadEvent_readerProg : (zeropadEvent s).readerProg = s.readerProg := by unfold zeropadEvent; rfl
@[simp] theorem zeropadEvent_busData : (zeropadEvent s).busData = s.busData := by unfold zeropadEvent; rfl
@[simp] theorem zeropadEvent_busError : (zeropadEvent s).busError = s.busError := by unfold zeropadEvent; rfl
end OfZeropadEvent

section OfFftEvent
@[simp] theorem fftEvent_auto : (fftEvent s).auto = s.auto := by unfold fftEvent; rfl
@[simp] theorem fftEvent_mode : (fftEvent s).mode = s.mode := by unfold fftEvent; rfl
@[simp] theorem fftEvent_cbusy : (fftEvent s).cbusy = s.cbusy := by unfold fftEvent; rfl
@[simp] theorem fftEvent_cwait : (fftEvent s).cwait = s.cwait := by unfold fftEvent; rfl
@[simp] theorem fftEvent_cstage : (fftEvent s).cstage = s.cstage := by unfold fftEvent; rfl
@[simp] theorem fftEvent_curcmd : (fftEvent s).curcmd = s.curcmd := by unfold fftEvent; rfl
@[simp] theorem fftEvent_w : (fftEvent s).w = s.w := by unfold fftEvent; rfl
@[simp] theorem fftEvent_r : (fftEvent s).r = s.r := by unfold fftEvent; rfl
@[simp] theorem fftEvent_ovrcnt : (fftEvent s).ovrcnt = s.ovrcnt := by unfold fftEvent; rfl
@[simp] theorem fftEvent_igncnt : (fftEvent s).igncnt = s.igncnt := by unfold fftEvent; rfl
@[simp] theorem fftEvent_fault : (fftEvent s).fault = s.fault := by unfold fftEvent; rfl
@[simp] theorem fftEvent_fcause : (fftEvent s).fcause = s.fcause := by unfold fftEvent; rfl
@[simp] theorem fftEvent_finfo : (fftEvent s).finfo = s.finfo := by unfold fftEvent; rfl
@[simp] theorem fftEvent_irqEn : (fftEvent s).irqEn = s.irqEn := by unfold fftEvent; rfl
@[simp] theorem fftEvent_irqPend : (fftEvent s).irqPend = s.irqPend := by unfold fftEvent; rfl
@[simp] theorem fftEvent_cfg : (fftEvent s).cfg = s.cfg := by unfold fftEvent; rfl
@[simp] theorem fftEvent_lat : (fftEvent s).lat = s.lat := by unfold fftEvent; rfl
@[simp] theorem fftEvent_prevRms : (fftEvent s).prevRms = s.prevRms := by unfold fftEvent; rfl
@[simp] theorem fftEvent_wfloor : (fftEvent s).wfloor = s.wfloor := by unfold fftEvent; rfl
@[simp] theorem fftEvent_wfirst : (fftEvent s).wfirst = s.wfirst := by unfold fftEvent; rfl
@[simp] theorem fftEvent_wend : (fftEvent s).wend = s.wend := by unfold fftEvent; rfl
@[simp] theorem fftEvent_lag : (fftEvent s).lag = s.lag := by unfold fftEvent; rfl
@[simp] theorem fftEvent_tRms : (fftEvent s).tRms = s.tRms := by unfold fftEvent; rfl
@[simp] theorem fftEvent_tFlux : (fftEvent s).tFlux = s.tFlux := by unfold fftEvent; rfl
@[simp] theorem fftEvent_tFlags : (fftEvent s).tFlags = s.tFlags := by unfold fftEvent; rfl
@[simp] theorem fftEvent_wNc : (fftEvent s).wNc = s.wNc := by unfold fftEvent; rfl
@[simp] theorem fftEvent_wDombin : (fftEvent s).wDombin = s.wDombin := by unfold fftEvent; rfl
@[simp] theorem fftEvent_wDomf : (fftEvent s).wDomf = s.wDomf := by unfold fftEvent; rfl
@[simp] theorem fftEvent_wc : (fftEvent s).wc = s.wc := by unfold fftEvent; rfl
@[simp] theorem fftEvent_bank : (fftEvent s).bank = s.bank := by unfold fftEvent; rfl
@[simp] theorem fftEvent_cand : (fftEvent s).cand = s.cand := by unfold fftEvent; rfl
@[simp] theorem fftEvent_stg : (fftEvent s).stg = s.stg := by unfold fftEvent; rfl
@[simp] theorem fftEvent_stgCnt : (fftEvent s).stgCnt = s.stgCnt := by unfold fftEvent; rfl
@[simp] theorem fftEvent_faultsSeen : (fftEvent s).faultsSeen = s.faultsSeen := by unfold fftEvent; rfl
@[simp] theorem fftEvent_refusedMark : (fftEvent s).refusedMark = s.refusedMark := by unfold fftEvent; rfl
@[simp] theorem fftEvent_resets : (fftEvent s).resets = s.resets := by unfold fftEvent; rfl
@[simp] theorem fftEvent_turns : (fftEvent s).turns = s.turns := by unfold fftEvent; rfl
@[simp] theorem fftEvent_waitFrom : (fftEvent s).waitFrom = s.waitFrom := by unfold fftEvent; rfl
@[simp] theorem fftEvent_sched : (fftEvent s).sched = s.sched := by unfold fftEvent; rfl
@[simp] theorem fftEvent_turn : (fftEvent s).turn = s.turn := by unfold fftEvent; rfl
@[simp] theorem fftEvent_hostProg : (fftEvent s).hostProg = s.hostProg := by unfold fftEvent; rfl
@[simp] theorem fftEvent_producerProg : (fftEvent s).producerProg = s.producerProg := by unfold fftEvent; rfl
@[simp] theorem fftEvent_readerProg : (fftEvent s).readerProg = s.readerProg := by unfold fftEvent; rfl
@[simp] theorem fftEvent_busData : (fftEvent s).busData = s.busData := by unfold fftEvent; rfl
@[simp] theorem fftEvent_busError : (fftEvent s).busError = s.busError := by unfold fftEvent; rfl
end OfFftEvent

section OfMagEvent
@[simp] theorem magEvent_auto : (magEvent s).auto = s.auto := by unfold magEvent; rfl
@[simp] theorem magEvent_mode : (magEvent s).mode = s.mode := by unfold magEvent; rfl
@[simp] theorem magEvent_cbusy : (magEvent s).cbusy = s.cbusy := by unfold magEvent; rfl
@[simp] theorem magEvent_cwait : (magEvent s).cwait = s.cwait := by unfold magEvent; rfl
@[simp] theorem magEvent_cstage : (magEvent s).cstage = s.cstage := by unfold magEvent; rfl
@[simp] theorem magEvent_curcmd : (magEvent s).curcmd = s.curcmd := by unfold magEvent; rfl
@[simp] theorem magEvent_w : (magEvent s).w = s.w := by unfold magEvent; rfl
@[simp] theorem magEvent_r : (magEvent s).r = s.r := by unfold magEvent; rfl
@[simp] theorem magEvent_ovrcnt : (magEvent s).ovrcnt = s.ovrcnt := by unfold magEvent; rfl
@[simp] theorem magEvent_igncnt : (magEvent s).igncnt = s.igncnt := by unfold magEvent; rfl
@[simp] theorem magEvent_fault : (magEvent s).fault = s.fault := by unfold magEvent; rfl
@[simp] theorem magEvent_fcause : (magEvent s).fcause = s.fcause := by unfold magEvent; rfl
@[simp] theorem magEvent_finfo : (magEvent s).finfo = s.finfo := by unfold magEvent; rfl
@[simp] theorem magEvent_irqEn : (magEvent s).irqEn = s.irqEn := by unfold magEvent; rfl
@[simp] theorem magEvent_irqPend : (magEvent s).irqPend = s.irqPend := by unfold magEvent; rfl
@[simp] theorem magEvent_cfg : (magEvent s).cfg = s.cfg := by unfold magEvent; rfl
@[simp] theorem magEvent_lat : (magEvent s).lat = s.lat := by unfold magEvent; rfl
@[simp] theorem magEvent_prevRms : (magEvent s).prevRms = s.prevRms := by unfold magEvent; rfl
@[simp] theorem magEvent_wfloor : (magEvent s).wfloor = s.wfloor := by unfold magEvent; rfl
@[simp] theorem magEvent_wfirst : (magEvent s).wfirst = s.wfirst := by unfold magEvent; rfl
@[simp] theorem magEvent_wend : (magEvent s).wend = s.wend := by unfold magEvent; rfl
@[simp] theorem magEvent_lag : (magEvent s).lag = s.lag := by unfold magEvent; rfl
@[simp] theorem magEvent_tRms : (magEvent s).tRms = s.tRms := by unfold magEvent; rfl
@[simp] theorem magEvent_tFlux : (magEvent s).tFlux = s.tFlux := by unfold magEvent; rfl
@[simp] theorem magEvent_tFlags : (magEvent s).tFlags = s.tFlags := by unfold magEvent; rfl
@[simp] theorem magEvent_wNc : (magEvent s).wNc = s.wNc := by unfold magEvent; rfl
@[simp] theorem magEvent_wDombin : (magEvent s).wDombin = s.wDombin := by unfold magEvent; rfl
@[simp] theorem magEvent_wDomf : (magEvent s).wDomf = s.wDomf := by unfold magEvent; rfl
@[simp] theorem magEvent_wc : (magEvent s).wc = s.wc := by unfold magEvent; rfl
@[simp] theorem magEvent_bank : (magEvent s).bank = s.bank := by unfold magEvent; rfl
@[simp] theorem magEvent_cand : (magEvent s).cand = s.cand := by unfold magEvent; rfl
@[simp] theorem magEvent_mem : (magEvent s).mem =
    s.mem.writeWords (Region.mag.addr 0) (List.zipWith modulus (s.elems .xre 0 s.lat.bins) (s.elems .xim 0 s.lat.bins)) := by unfold magEvent; rfl
@[simp] theorem magEvent_stg : (magEvent s).stg = s.stg := by unfold magEvent; rfl
@[simp] theorem magEvent_stgCnt : (magEvent s).stgCnt = s.stgCnt := by unfold magEvent; rfl
@[simp] theorem magEvent_faultsSeen : (magEvent s).faultsSeen = s.faultsSeen := by unfold magEvent; rfl
@[simp] theorem magEvent_refusedMark : (magEvent s).refusedMark = s.refusedMark := by unfold magEvent; rfl
@[simp] theorem magEvent_resets : (magEvent s).resets = s.resets := by unfold magEvent; rfl
@[simp] theorem magEvent_turns : (magEvent s).turns = s.turns := by unfold magEvent; rfl
@[simp] theorem magEvent_waitFrom : (magEvent s).waitFrom = s.waitFrom := by unfold magEvent; rfl
@[simp] theorem magEvent_sched : (magEvent s).sched = s.sched := by unfold magEvent; rfl
@[simp] theorem magEvent_turn : (magEvent s).turn = s.turn := by unfold magEvent; rfl
@[simp] theorem magEvent_hostProg : (magEvent s).hostProg = s.hostProg := by unfold magEvent; rfl
@[simp] theorem magEvent_producerProg : (magEvent s).producerProg = s.producerProg := by unfold magEvent; rfl
@[simp] theorem magEvent_readerProg : (magEvent s).readerProg = s.readerProg := by unfold magEvent; rfl
@[simp] theorem magEvent_busData : (magEvent s).busData = s.busData := by unfold magEvent; rfl
@[simp] theorem magEvent_busError : (magEvent s).busError = s.busError := by unfold magEvent; rfl
end OfMagEvent

section OfWhitenEvent
@[simp] theorem whitenEvent_auto : (whitenEvent s).auto = s.auto := by unfold whitenEvent; rfl
@[simp] theorem whitenEvent_mode : (whitenEvent s).mode = s.mode := by unfold whitenEvent; rfl
@[simp] theorem whitenEvent_cbusy : (whitenEvent s).cbusy = s.cbusy := by unfold whitenEvent; rfl
@[simp] theorem whitenEvent_cwait : (whitenEvent s).cwait = s.cwait := by unfold whitenEvent; rfl
@[simp] theorem whitenEvent_cstage : (whitenEvent s).cstage = s.cstage := by unfold whitenEvent; rfl
@[simp] theorem whitenEvent_curcmd : (whitenEvent s).curcmd = s.curcmd := by unfold whitenEvent; rfl
@[simp] theorem whitenEvent_w : (whitenEvent s).w = s.w := by unfold whitenEvent; rfl
@[simp] theorem whitenEvent_r : (whitenEvent s).r = s.r := by unfold whitenEvent; rfl
@[simp] theorem whitenEvent_ovrcnt : (whitenEvent s).ovrcnt = s.ovrcnt := by unfold whitenEvent; rfl
@[simp] theorem whitenEvent_igncnt : (whitenEvent s).igncnt = s.igncnt := by unfold whitenEvent; rfl
@[simp] theorem whitenEvent_fault : (whitenEvent s).fault = s.fault := by unfold whitenEvent; rfl
@[simp] theorem whitenEvent_fcause : (whitenEvent s).fcause = s.fcause := by unfold whitenEvent; rfl
@[simp] theorem whitenEvent_finfo : (whitenEvent s).finfo = s.finfo := by unfold whitenEvent; rfl
@[simp] theorem whitenEvent_irqEn : (whitenEvent s).irqEn = s.irqEn := by unfold whitenEvent; rfl
@[simp] theorem whitenEvent_irqPend : (whitenEvent s).irqPend = s.irqPend := by unfold whitenEvent; rfl
@[simp] theorem whitenEvent_cfg : (whitenEvent s).cfg = s.cfg := by unfold whitenEvent; rfl
@[simp] theorem whitenEvent_lat : (whitenEvent s).lat = s.lat := by unfold whitenEvent; rfl
@[simp] theorem whitenEvent_prevRms : (whitenEvent s).prevRms = s.prevRms := by unfold whitenEvent; rfl
@[simp] theorem whitenEvent_wfirst : (whitenEvent s).wfirst = false := by unfold whitenEvent; rfl
@[simp] theorem whitenEvent_wend : (whitenEvent s).wend = s.wend := by unfold whitenEvent; rfl
@[simp] theorem whitenEvent_lag : (whitenEvent s).lag = s.lag := by unfold whitenEvent; rfl
@[simp] theorem whitenEvent_tRms : (whitenEvent s).tRms = s.tRms := by unfold whitenEvent; rfl
@[simp] theorem whitenEvent_tFlux : (whitenEvent s).tFlux = s.tFlux := by unfold whitenEvent; rfl
@[simp] theorem whitenEvent_tFlags : (whitenEvent s).tFlags = s.tFlags := by unfold whitenEvent; rfl
@[simp] theorem whitenEvent_wNc : (whitenEvent s).wNc = s.wNc := by unfold whitenEvent; rfl
@[simp] theorem whitenEvent_wc : (whitenEvent s).wc = s.wc := by unfold whitenEvent; rfl
@[simp] theorem whitenEvent_bank : (whitenEvent s).bank = s.bank := by unfold whitenEvent; rfl
@[simp] theorem whitenEvent_cand : (whitenEvent s).cand = s.cand := by unfold whitenEvent; rfl
@[simp] theorem whitenEvent_stg : (whitenEvent s).stg = s.stg := by unfold whitenEvent; rfl
@[simp] theorem whitenEvent_stgCnt : (whitenEvent s).stgCnt = s.stgCnt := by unfold whitenEvent; rfl
@[simp] theorem whitenEvent_faultsSeen : (whitenEvent s).faultsSeen = s.faultsSeen := by unfold whitenEvent; rfl
@[simp] theorem whitenEvent_refusedMark : (whitenEvent s).refusedMark = s.refusedMark := by unfold whitenEvent; rfl
@[simp] theorem whitenEvent_resets : (whitenEvent s).resets = s.resets := by unfold whitenEvent; rfl
@[simp] theorem whitenEvent_turns : (whitenEvent s).turns = s.turns := by unfold whitenEvent; rfl
@[simp] theorem whitenEvent_waitFrom : (whitenEvent s).waitFrom = s.waitFrom := by unfold whitenEvent; rfl
@[simp] theorem whitenEvent_sched : (whitenEvent s).sched = s.sched := by unfold whitenEvent; rfl
@[simp] theorem whitenEvent_turn : (whitenEvent s).turn = s.turn := by unfold whitenEvent; rfl
@[simp] theorem whitenEvent_hostProg : (whitenEvent s).hostProg = s.hostProg := by unfold whitenEvent; rfl
@[simp] theorem whitenEvent_producerProg : (whitenEvent s).producerProg =
    s.producerProg := by unfold whitenEvent; rfl
@[simp] theorem whitenEvent_readerProg : (whitenEvent s).readerProg = s.readerProg := by unfold whitenEvent; rfl
@[simp] theorem whitenEvent_busData : (whitenEvent s).busData = s.busData := by unfold whitenEvent; rfl
@[simp] theorem whitenEvent_busError : (whitenEvent s).busError = s.busError := by unfold whitenEvent; rfl
end OfWhitenEvent

section OfSolveEvent
@[simp] theorem solveEvent_auto : (solveEvent s).auto = s.auto := by unfold solveEvent; rfl
@[simp] theorem solveEvent_mode : (solveEvent s).mode = s.mode := by unfold solveEvent; rfl
@[simp] theorem solveEvent_cbusy : (solveEvent s).cbusy = s.cbusy := by unfold solveEvent; rfl
@[simp] theorem solveEvent_cwait : (solveEvent s).cwait = s.cwait := by unfold solveEvent; rfl
@[simp] theorem solveEvent_cstage : (solveEvent s).cstage = s.cstage := by unfold solveEvent; rfl
@[simp] theorem solveEvent_curcmd : (solveEvent s).curcmd = s.curcmd := by unfold solveEvent; rfl
@[simp] theorem solveEvent_w : (solveEvent s).w = s.w := by unfold solveEvent; rfl
@[simp] theorem solveEvent_r : (solveEvent s).r = s.r := by unfold solveEvent; rfl
@[simp] theorem solveEvent_ovrcnt : (solveEvent s).ovrcnt = s.ovrcnt := by unfold solveEvent; rfl
@[simp] theorem solveEvent_igncnt : (solveEvent s).igncnt = s.igncnt := by unfold solveEvent; rfl
@[simp] theorem solveEvent_fault : (solveEvent s).fault = s.fault := by unfold solveEvent; rfl
@[simp] theorem solveEvent_fcause : (solveEvent s).fcause = s.fcause := by unfold solveEvent; rfl
@[simp] theorem solveEvent_finfo : (solveEvent s).finfo = s.finfo := by unfold solveEvent; rfl
@[simp] theorem solveEvent_irqEn : (solveEvent s).irqEn = s.irqEn := by unfold solveEvent; rfl
@[simp] theorem solveEvent_irqPend : (solveEvent s).irqPend = s.irqPend := by unfold solveEvent; rfl
@[simp] theorem solveEvent_cfg : (solveEvent s).cfg = s.cfg := by unfold solveEvent; rfl
@[simp] theorem solveEvent_lat : (solveEvent s).lat = s.lat := by unfold solveEvent; rfl
@[simp] theorem solveEvent_prevRms : (solveEvent s).prevRms = s.prevRms := by unfold solveEvent; rfl
@[simp] theorem solveEvent_wfloor : (solveEvent s).wfloor = s.wfloor := by unfold solveEvent; rfl
@[simp] theorem solveEvent_wfirst : (solveEvent s).wfirst = s.wfirst := by unfold solveEvent; rfl
@[simp] theorem solveEvent_wend : (solveEvent s).wend = s.wend := by unfold solveEvent; rfl
@[simp] theorem solveEvent_lag : (solveEvent s).lag = s.lag := by unfold solveEvent; rfl
@[simp] theorem solveEvent_tRms : (solveEvent s).tRms = s.tRms := by unfold solveEvent; rfl
@[simp] theorem solveEvent_tFlux : (solveEvent s).tFlux = s.tFlux := by unfold solveEvent; rfl
@[simp] theorem solveEvent_wDombin : (solveEvent s).wDombin = s.wDombin := by unfold solveEvent; rfl
@[simp] theorem solveEvent_wDomf : (solveEvent s).wDomf = s.wDomf := by unfold solveEvent; rfl
@[simp] theorem solveEvent_bank : (solveEvent s).bank = s.bank := by unfold solveEvent; rfl
@[simp] theorem solveEvent_cand : (solveEvent s).cand = s.cand := by unfold solveEvent; rfl
@[simp] theorem solveEvent_stg : (solveEvent s).stg = s.stg := by unfold solveEvent; rfl
@[simp] theorem solveEvent_stgCnt : (solveEvent s).stgCnt = s.stgCnt := by unfold solveEvent; rfl
@[simp] theorem solveEvent_faultsSeen : (solveEvent s).faultsSeen = s.faultsSeen := by unfold solveEvent; rfl
@[simp] theorem solveEvent_refusedMark : (solveEvent s).refusedMark = s.refusedMark := by unfold solveEvent; rfl
@[simp] theorem solveEvent_resets : (solveEvent s).resets = s.resets := by unfold solveEvent; rfl
@[simp] theorem solveEvent_turns : (solveEvent s).turns = s.turns := by unfold solveEvent; rfl
@[simp] theorem solveEvent_waitFrom : (solveEvent s).waitFrom = s.waitFrom := by unfold solveEvent; rfl
@[simp] theorem solveEvent_sched : (solveEvent s).sched = s.sched := by unfold solveEvent; rfl
@[simp] theorem solveEvent_turn : (solveEvent s).turn = s.turn := by unfold solveEvent; rfl
@[simp] theorem solveEvent_hostProg : (solveEvent s).hostProg = s.hostProg := by unfold solveEvent; rfl
@[simp] theorem solveEvent_producerProg : (solveEvent s).producerProg = s.producerProg := by unfold solveEvent; rfl
@[simp] theorem solveEvent_readerProg : (solveEvent s).readerProg = s.readerProg := by unfold solveEvent; rfl
@[simp] theorem solveEvent_busData : (solveEvent s).busData = s.busData := by unfold solveEvent; rfl
@[simp] theorem solveEvent_busError : (solveEvent s).busError = s.busError := by unfold solveEvent; rfl
end OfSolveEvent

section OfPublishEvent
@[simp] theorem publishEvent_auto : (publishEvent s).auto = s.auto := by unfold publishEvent; rfl
@[simp] theorem publishEvent_mode : (publishEvent s).mode = s.mode := by unfold publishEvent; rfl
@[simp] theorem publishEvent_cbusy : (publishEvent s).cbusy = s.cbusy := by unfold publishEvent; rfl
@[simp] theorem publishEvent_cwait : (publishEvent s).cwait = s.cwait := by unfold publishEvent; rfl
@[simp] theorem publishEvent_cstage : (publishEvent s).cstage = s.cstage := by unfold publishEvent; rfl
@[simp] theorem publishEvent_curcmd : (publishEvent s).curcmd = s.curcmd := by unfold publishEvent; rfl
@[simp] theorem publishEvent_w : (publishEvent s).w = s.w := by unfold publishEvent; rfl
@[simp] theorem publishEvent_r : (publishEvent s).r = s.r := by unfold publishEvent; rfl
@[simp] theorem publishEvent_ovrcnt : (publishEvent s).ovrcnt = s.ovrcnt := by unfold publishEvent; rfl
@[simp] theorem publishEvent_igncnt : (publishEvent s).igncnt = s.igncnt := by unfold publishEvent; rfl
@[simp] theorem publishEvent_fault : (publishEvent s).fault = s.fault := by unfold publishEvent; rfl
@[simp] theorem publishEvent_fcause : (publishEvent s).fcause = s.fcause := by unfold publishEvent; rfl
@[simp] theorem publishEvent_finfo : (publishEvent s).finfo = s.finfo := by unfold publishEvent; rfl
@[simp] theorem publishEvent_irqEn : (publishEvent s).irqEn = s.irqEn := by unfold publishEvent; rfl
@[simp] theorem publishEvent_irqPend : (publishEvent s).irqPend =
    s.irqPend ||| IrqSource.stepDone.mask := by unfold publishEvent; rfl
@[simp] theorem publishEvent_cfg : (publishEvent s).cfg = s.cfg := by unfold publishEvent; rfl
@[simp] theorem publishEvent_lat : (publishEvent s).lat = s.lat := by unfold publishEvent; rfl
@[simp] theorem publishEvent_prevRms : (publishEvent s).prevRms = s.prevRms := by unfold publishEvent; rfl
@[simp] theorem publishEvent_wfloor : (publishEvent s).wfloor = s.wfloor := by unfold publishEvent; rfl
@[simp] theorem publishEvent_wfirst : (publishEvent s).wfirst = s.wfirst := by unfold publishEvent; rfl
@[simp] theorem publishEvent_wend : (publishEvent s).wend = s.wend := by unfold publishEvent; rfl
@[simp] theorem publishEvent_lag : (publishEvent s).lag = s.lag := by unfold publishEvent; rfl
@[simp] theorem publishEvent_tRms : (publishEvent s).tRms = s.tRms := by unfold publishEvent; rfl
@[simp] theorem publishEvent_tFlux : (publishEvent s).tFlux = s.tFlux := by unfold publishEvent; rfl
@[simp] theorem publishEvent_tFlags : (publishEvent s).tFlags = s.tFlags := by unfold publishEvent; rfl
@[simp] theorem publishEvent_wNc : (publishEvent s).wNc = s.wNc := by unfold publishEvent; rfl
@[simp] theorem publishEvent_wDombin : (publishEvent s).wDombin = s.wDombin := by unfold publishEvent; rfl
@[simp] theorem publishEvent_wDomf : (publishEvent s).wDomf = s.wDomf := by unfold publishEvent; rfl
@[simp] theorem publishEvent_wc : (publishEvent s).wc = s.wc := by unfold publishEvent; rfl
@[simp] theorem publishEvent_cand : (publishEvent s).cand = s.published := by unfold publishEvent; rfl
@[simp] theorem publishEvent_mem : (publishEvent s).mem = s.mem := by unfold publishEvent; rfl
@[simp] theorem publishEvent_stg : (publishEvent s).stg = s.stg := by unfold publishEvent; rfl
@[simp] theorem publishEvent_stgCnt : (publishEvent s).stgCnt = s.stgCnt := by unfold publishEvent; rfl
@[simp] theorem publishEvent_faultsSeen : (publishEvent s).faultsSeen = s.faultsSeen := by unfold publishEvent; rfl
@[simp] theorem publishEvent_refusedMark : (publishEvent s).refusedMark =
    s.refusedMark := by unfold publishEvent; rfl
@[simp] theorem publishEvent_resets : (publishEvent s).resets = s.resets := by unfold publishEvent; rfl
@[simp] theorem publishEvent_turns : (publishEvent s).turns = s.turns := by unfold publishEvent; rfl
@[simp] theorem publishEvent_waitFrom : (publishEvent s).waitFrom = s.waitFrom := by unfold publishEvent; rfl
@[simp] theorem publishEvent_sched : (publishEvent s).sched = s.sched := by unfold publishEvent; rfl
@[simp] theorem publishEvent_turn : (publishEvent s).turn = s.turn := by unfold publishEvent; rfl
@[simp] theorem publishEvent_hostProg : (publishEvent s).hostProg = s.hostProg := by unfold publishEvent; rfl
@[simp] theorem publishEvent_producerProg : (publishEvent s).producerProg =
    s.producerProg := by unfold publishEvent; rfl
@[simp] theorem publishEvent_readerProg : (publishEvent s).readerProg = s.readerProg := by unfold publishEvent; rfl
@[simp] theorem publishEvent_busData : (publishEvent s).busData = s.busData := by unfold publishEvent; rfl
@[simp] theorem publishEvent_busError : (publishEvent s).busError = s.busError := by unfold publishEvent; rfl
end OfPublishEvent

section OfCountChoice
variable (who : Agent)
@[simp] theorem countChoice_auto : (s.countChoice who).auto = s.auto := by unfold State.countChoice; rfl
@[simp] theorem countChoice_mode : (s.countChoice who).mode = s.mode := by unfold State.countChoice; rfl
@[simp] theorem countChoice_cbusy : (s.countChoice who).cbusy = s.cbusy := by unfold State.countChoice; rfl
@[simp] theorem countChoice_cwait : (s.countChoice who).cwait = s.cwait := by unfold State.countChoice; rfl
@[simp] theorem countChoice_cstage : (s.countChoice who).cstage = s.cstage := by unfold State.countChoice; rfl
@[simp] theorem countChoice_curcmd : (s.countChoice who).curcmd = s.curcmd := by unfold State.countChoice; rfl
@[simp] theorem countChoice_w : (s.countChoice who).w = s.w := by unfold State.countChoice; rfl
@[simp] theorem countChoice_r : (s.countChoice who).r = s.r := by unfold State.countChoice; rfl
@[simp] theorem countChoice_ovrcnt : (s.countChoice who).ovrcnt = s.ovrcnt := by unfold State.countChoice; rfl
@[simp] theorem countChoice_igncnt : (s.countChoice who).igncnt = s.igncnt := by unfold State.countChoice; rfl
@[simp] theorem countChoice_fault : (s.countChoice who).fault = s.fault := by unfold State.countChoice; rfl
@[simp] theorem countChoice_fcause : (s.countChoice who).fcause = s.fcause := by unfold State.countChoice; rfl
@[simp] theorem countChoice_finfo : (s.countChoice who).finfo = s.finfo := by unfold State.countChoice; rfl
@[simp] theorem countChoice_irqEn : (s.countChoice who).irqEn = s.irqEn := by unfold State.countChoice; rfl
@[simp] theorem countChoice_irqPend : (s.countChoice who).irqPend = s.irqPend := by unfold State.countChoice; rfl
@[simp] theorem countChoice_cfg : (s.countChoice who).cfg = s.cfg := by unfold State.countChoice; rfl
@[simp] theorem countChoice_lat : (s.countChoice who).lat = s.lat := by unfold State.countChoice; rfl
@[simp] theorem countChoice_prevRms : (s.countChoice who).prevRms = s.prevRms := by unfold State.countChoice; rfl
@[simp] theorem countChoice_wfloor : (s.countChoice who).wfloor = s.wfloor := by unfold State.countChoice; rfl
@[simp] theorem countChoice_wfirst : (s.countChoice who).wfirst = s.wfirst := by unfold State.countChoice; rfl
@[simp] theorem countChoice_wend : (s.countChoice who).wend = s.wend := by unfold State.countChoice; rfl
@[simp] theorem countChoice_lag : (s.countChoice who).lag = s.lag := by unfold State.countChoice; rfl
@[simp] theorem countChoice_tRms : (s.countChoice who).tRms = s.tRms := by unfold State.countChoice; rfl
@[simp] theorem countChoice_tFlux : (s.countChoice who).tFlux = s.tFlux := by unfold State.countChoice; rfl
@[simp] theorem countChoice_tFlags : (s.countChoice who).tFlags = s.tFlags := by unfold State.countChoice; rfl
@[simp] theorem countChoice_wNc : (s.countChoice who).wNc = s.wNc := by unfold State.countChoice; rfl
@[simp] theorem countChoice_wDombin : (s.countChoice who).wDombin = s.wDombin := by unfold State.countChoice; rfl
@[simp] theorem countChoice_wDomf : (s.countChoice who).wDomf = s.wDomf := by unfold State.countChoice; rfl
@[simp] theorem countChoice_wc : (s.countChoice who).wc = s.wc := by unfold State.countChoice; rfl
@[simp] theorem countChoice_bank : (s.countChoice who).bank = s.bank := by unfold State.countChoice; rfl
@[simp] theorem countChoice_cand : (s.countChoice who).cand = s.cand := by unfold State.countChoice; rfl
@[simp] theorem countChoice_mem : (s.countChoice who).mem = s.mem := by unfold State.countChoice; rfl
@[simp] theorem countChoice_stg : (s.countChoice who).stg = s.stg := by unfold State.countChoice; rfl
@[simp] theorem countChoice_stgCnt : (s.countChoice who).stgCnt = s.stgCnt := by unfold State.countChoice; rfl
@[simp] theorem countChoice_faultsSeen : (s.countChoice who).faultsSeen =
    s.faultsSeen := by unfold State.countChoice; rfl
@[simp] theorem countChoice_refusedMark : (s.countChoice who).refusedMark =
    s.refusedMark := by unfold State.countChoice; rfl
@[simp] theorem countChoice_resets : (s.countChoice who).resets = s.resets := by unfold State.countChoice; rfl
@[simp] theorem countChoice_turns : (s.countChoice who).turns = s.turns + 1 := by unfold State.countChoice; rfl
@[simp] theorem countChoice_waitFrom : (s.countChoice who).waitFrom =
    if s.sequencerReady && who != .sequencer then s.waitFrom else s.turns + 1 := by unfold State.countChoice; rfl
@[simp] theorem countChoice_sched : (s.countChoice who).sched = [] := by unfold State.countChoice; rfl
@[simp] theorem countChoice_turn : (s.countChoice who).turn = s.turn := by unfold State.countChoice; rfl
@[simp] theorem countChoice_hostProg : (s.countChoice who).hostProg =
    s.hostProg := by unfold State.countChoice; rfl
@[simp] theorem countChoice_producerProg : (s.countChoice who).producerProg =
    s.producerProg := by unfold State.countChoice; rfl
@[simp] theorem countChoice_readerProg : (s.countChoice who).readerProg =
    s.readerProg := by unfold State.countChoice; rfl
@[simp] theorem countChoice_busData : (s.countChoice who).busData = s.busData := by unfold State.countChoice; rfl
@[simp] theorem countChoice_busError : (s.countChoice who).busError =
    s.busError := by unfold State.countChoice; rfl
end OfCountChoice

section OfStartInit
variable (l : Latched)
@[simp] theorem startInit_auto : (startInit l s).auto = s.auto := by unfold startInit; rfl
@[simp] theorem startInit_mode : (startInit l s).mode = s.mode := by unfold startInit; rfl
@[simp] theorem startInit_cbusy : (startInit l s).cbusy = s.cbusy := by unfold startInit; rfl
@[simp] theorem startInit_cwait : (startInit l s).cwait = s.cwait := by unfold startInit; rfl
@[simp] theorem startInit_cstage : (startInit l s).cstage = s.cstage := by unfold startInit; rfl
@[simp] theorem startInit_curcmd : (startInit l s).curcmd = s.curcmd := by unfold startInit; rfl
@[simp] theorem startInit_w : (startInit l s).w = 0 := by unfold startInit; rfl
@[simp] theorem startInit_r : (startInit l s).r = 0 := by unfold startInit; rfl
@[simp] theorem startInit_ovrcnt : (startInit l s).ovrcnt = 0 := by unfold startInit; rfl
@[simp] theorem startInit_igncnt : (startInit l s).igncnt = s.igncnt := by unfold startInit; rfl
@[simp] theorem startInit_fault : (startInit l s).fault = s.fault := by unfold startInit; rfl
@[simp] theorem startInit_fcause : (startInit l s).fcause = s.fcause := by unfold startInit; rfl
@[simp] theorem startInit_finfo : (startInit l s).finfo = s.finfo := by unfold startInit; rfl
@[simp] theorem startInit_irqEn : (startInit l s).irqEn = s.irqEn := by unfold startInit; rfl
@[simp] theorem startInit_irqPend : (startInit l s).irqPend = s.irqPend := by unfold startInit; rfl
@[simp] theorem startInit_cfg : (startInit l s).cfg = s.cfg := by unfold startInit; rfl
@[simp] theorem startInit_lat : (startInit l s).lat = l := by unfold startInit; rfl
@[simp] theorem startInit_prevRms : (startInit l s).prevRms = 0 := by unfold startInit; rfl
@[simp] theorem startInit_wfloor : (startInit l s).wfloor = 0 := by unfold startInit; rfl
@[simp] theorem startInit_wfirst : (startInit l s).wfirst = true := by unfold startInit; rfl
@[simp] theorem startInit_wend : (startInit l s).wend = 0 := by unfold startInit; rfl
@[simp] theorem startInit_lag : (startInit l s).lag = 0 := by unfold startInit; rfl
@[simp] theorem startInit_tRms : (startInit l s).tRms = 0 := by unfold startInit; rfl
@[simp] theorem startInit_tFlux : (startInit l s).tFlux = 0 := by unfold startInit; rfl
@[simp] theorem startInit_tFlags : (startInit l s).tFlags = ⟨false, false, false⟩ := by unfold startInit; rfl
@[simp] theorem startInit_wNc : (startInit l s).wNc = 0 := by unfold startInit; rfl
@[simp] theorem startInit_wDombin : (startInit l s).wDombin = 0 := by unfold startInit; rfl
@[simp] theorem startInit_wDomf : (startInit l s).wDomf = 0 := by unfold startInit; rfl
@[simp] theorem startInit_wc : (startInit l s).wc = List.replicate 16 Cand.zero := by unfold startInit; rfl
@[simp] theorem startInit_bank : (startInit l s).bank = Bank.zero := by unfold startInit; rfl
@[simp] theorem startInit_cand : (startInit l s).cand = List.replicate 16 Cand.zero := by unfold startInit; rfl
@[simp] theorem startInit_mem : (startInit l s).mem = sessionMemory l := by unfold startInit; rfl
@[simp] theorem startInit_stg : (startInit l s).stg = s.stg := by unfold startInit; rfl
@[simp] theorem startInit_stgCnt : (startInit l s).stgCnt = 0 := by unfold startInit; rfl
@[simp] theorem startInit_faultsSeen : (startInit l s).faultsSeen = s.faultsSeen := by unfold startInit; rfl
@[simp] theorem startInit_refusedMark : (startInit l s).refusedMark = s.refusedMark := by unfold startInit; rfl
@[simp] theorem startInit_resets : (startInit l s).resets = s.resets := by unfold startInit; rfl
@[simp] theorem startInit_turns : (startInit l s).turns = s.turns := by unfold startInit; rfl
@[simp] theorem startInit_waitFrom : (startInit l s).waitFrom = s.waitFrom := by unfold startInit; rfl
@[simp] theorem startInit_sched : (startInit l s).sched = s.sched := by unfold startInit; rfl
@[simp] theorem startInit_turn : (startInit l s).turn = s.turn := by unfold startInit; rfl
@[simp] theorem startInit_hostProg : (startInit l s).hostProg = s.hostProg := by unfold startInit; rfl
@[simp] theorem startInit_producerProg : (startInit l s).producerProg = s.producerProg := by unfold startInit; rfl
@[simp] theorem startInit_readerProg : (startInit l s).readerProg = s.readerProg := by unfold startInit; rfl
@[simp] theorem startInit_busData : (startInit l s).busData = s.busData := by unfold startInit; rfl
@[simp] theorem startInit_busError : (startInit l s).busError = s.busError := by unfold startInit; rfl
end OfStartInit

section SequencerRegisters
variable (c : Word) (b w : Bool) (st : Stage)
theorem currentFrame_sequencer :
    State.currentFrame { s with cbusy := b, cwait := w, cstage := st, curcmd := c } = s.currentFrame := rfl
theorem transientEvent_sequencer : transientEvent { s with cbusy := b, cwait := w, cstage := st, curcmd := c } =
    { transientEvent s with cbusy := b, cwait := w, cstage := st, curcmd := c } := by
  simp only [transientEvent, currentFrame_sequencer]
theorem windowEvent_sequencer : windowEvent { s with cbusy := b, cwait := w, cstage := st, curcmd := c } =
    { windowEvent s with cbusy := b, cwait := w, cstage := st, curcmd := c } := by unfold windowEvent; rfl
theorem zeropadEvent_sequencer : zeropadEvent { s with cbusy := b, cwait := w, cstage := st, curcmd := c } =
    { zeropadEvent s with cbusy := b, cwait := w, cstage := st, curcmd := c } := by unfold zeropadEvent; rfl
theorem fftEvent_sequencer : fftEvent { s with cbusy := b, cwait := w, cstage := st, curcmd := c } =
    { fftEvent s with cbusy := b, cwait := w, cstage := st, curcmd := c } := by unfold fftEvent; rfl
theorem magEvent_sequencer : magEvent { s with cbusy := b, cwait := w, cstage := st, curcmd := c } =
    { magEvent s with cbusy := b, cwait := w, cstage := st, curcmd := c } := by unfold magEvent; rfl
theorem whitenEvent_sequencer : whitenEvent { s with cbusy := b, cwait := w, cstage := st, curcmd := c } =
    { whitenEvent s with cbusy := b, cwait := w, cstage := st, curcmd := c } := by unfold whitenEvent; rfl
theorem solveEvent_sequencer : solveEvent { s with cbusy := b, cwait := w, cstage := st, curcmd := c } =
    { solveEvent s with cbusy := b, cwait := w, cstage := st, curcmd := c } := by unfold solveEvent; rfl
theorem publishEvent_sequencer : publishEvent { s with cbusy := b, cwait := w, cstage := st, curcmd := c } =
    { publishEvent s with cbusy := b, cwait := w, cstage := st, curcmd := c } := by unfold publishEvent; rfl
end SequencerRegisters

end Sys2Proof.Machine
end

