-- ==== Sys2Proof/Tests/Slice0.lean ====
section
/-! SUPPORT. Tests of the model: decoding of words written out from the encoding tables, one step of each command with the
values of 95_test_vectors.md, the ill-formed command, and for each statement a state that meets its hypotheses. -/

namespace Sys2Proof.Machine.Tests

open Sys2Proof Sys2Proof.Machine

set_option Elab.async false

/-- `S_run` without the window table: RUNNING, every array +0.0 (95_test_vectors.md, notation). -/
def run : State := { State.reset with mode := .running, mem := Memory.zeroed, stg := Memory.zeroed }

/-- `S_run` with ALEN 512 and NFFT 2048, the shortest lengths. -/
def short : State := { run with lat := { Latched.default with alen := .len512, nfft := .len2048 } }

/-- The sequencer's event of command `i` at stage `st`, one frame being available. -/
def busy (s : State) (i : Instr) (st : Stage) : State :=
  { s with turn := .sequencer, cbusy := true, cstage := st, curcmd := encode i, cwait := st == .snapshot, w := 128 }

/-- One element set. -/
def poke (g : Region) (i : Nat) (v : Word) (s : State) : State := s.setElems g i [v]

/-- A value of the next state, if there is one. -/
def after {α : Type} (o : Host.Outcome State Fault Refusal) (f : State → α) : Option α :=
  match o with
  | .next t => some (f t)
  | .fault _ => none
  | .refused _ => none

/-! ### Encoding: words written out from R85 and R87 -/

theorem test_decode_push : decode .pcmd 0b00000000000000000000000100000001 = .ok (.push 1) := by decide
theorem test_decode_nop : decode .ccmd 0b00000000000000000000000000010000 = .ok .nop := by decide
theorem test_decode_snapshot : decode .ccmd 0b00000000000000000000000000010001 = .ok .snapshot := by decide
theorem test_decode_transient : decode .ccmd 0b00000000000000000000000000100000 = .ok .transient := by decide
theorem test_decode_window : decode .ccmd 0b00000000000000000000000000110000 = .ok .window := by decide
theorem test_decode_zeropad : decode .ccmd 0b00000000000000000000000000110001 = .ok .zeropad := by decide
theorem test_decode_fft : decode .ccmd 0b00000000000000000000000000110010 = .ok .fft := by decide
theorem test_decode_mag : decode .ccmd 0b00000000000000000000000000110011 = .ok .mag := by decide
theorem test_decode_whiten : decode .ccmd 0b00000000000000000000000000110100 = .ok .whiten := by decide
theorem test_decode_solve : decode .ccmd 0b00000000000000000000000001000000 = .ok .solve := by decide
theorem test_decode_publish : decode .ccmd 0b00000000000000000000000001010000 = .ok .publish := by decide
theorem test_decode_step : decode .ccmd 0b00000000000000000000000001100000 = .ok .step := by decide
theorem test_decode_start : decode .hcmd 0b00000000000000000000000010000000 = .ok .start := by decide
theorem test_decode_stop : decode .hcmd 0b00000000000000000000000010000001 = .ok .stop := by decide
theorem test_decode_clrfault : decode .hcmd 0b00000000000000000000000010000010 = .ok .clrfault := by decide
theorem test_decode_srst : decode .hcmd 0b00000000000000001010010110000011 = .ok (.srst 0xA5) := by decide

/-- Vectors C4, C5, C7 to C10 and C12 to C15. -/
theorem test_decode_illegal :
    decode .pcmd 0x00010101 = .error .reservedBits ∧ decode .pcmd 0x00000011 = .error .noSuchOpcode ∧
    decode .ccmd 0x00000111 = .error .strayArgument ∧ decode .ccmd 0x00000000 = .error .noSuchOpcode ∧
    decode .ccmd 0x000000FF = .error .noSuchOpcode ∧ decode .ccmd 0x00000080 = .error .noSuchOpcode ∧
    decode .hcmd 0x0000A483 = .error .wrongKey ∧ decode .hcmd 0x00000083 = .error .wrongKey ∧
    decode .hcmd 0x00000180 = .error .strayArgument ∧ decode .hcmd 0x00000060 = .error .noSuchOpcode := by
  decide

/-- The one ill-formed command: SRST with another key. -/
theorem test_wellFormed_refuses_other_key : (Instr.srst 0xA4).wellFormed = false := by decide
theorem test_wellFormed_admits_key : (Instr.srst 0xA5).wellFormed = true := by decide

/-- The table's numbering: one row of each port. -/
theorem test_decodeTableWord :
    decodeTableWord 32 0x00000101 = some (.push 1) ∧ decodeTableWord 32 0x00000060 = some .step ∧
    decodeTableWord 32 0x0000A583 = some (.srst 0xA5) ∧ decodeTableWord 32 0x0000A483 = none := by
  decide

/-! ### The ring buffer -/

/-- P-1: a frame commits. -/
theorem test_push_commits :
    after (exec (.push 1) (({ run with stgCnt := 127 } : State) |> stageSample 0x3F000000))
      (fun t => (t.w, t.stgCnt, t.elem .ring 127, t.irqPend, t.statusWord)) =
      some (128, 0, 0x3F000000, 0b000010, 0x00000101) := by
  decide +kernel

/-- P-11: an overrun gives up the oldest step. -/
theorem test_push_overruns :
    after (exec (.push 1) { run with stgCnt := 128, w := 2048 }) (fun t => (t.w, t.r, t.ovrcnt, t.irqPend)) =
      some (2176, 128, 1, 0b000110) := by
  decide +kernel

/-- N9: NOP in IDLE. -/
theorem test_nop_idle : after (exec .nop State.reset) id = some State.reset := by decide +kernel

/-- N10: NOP while a command runs is BUSY. -/
theorem test_nop_busy :
    after (exec .nop { run with cbusy := true }) (fun t => (t.fault, t.fcause, t.finfo)) =
      some (0b0010000, 5, 0x10) := by
  decide +kernel

/-- N2: SNAPSHOT with no step available is accepted and held. -/
theorem test_snapshot_accepted : after (exec .snapshot run) (·.statusWord) = some 0x0000001D := by decide +kernel

/-- N1: the newest frame is taken; with STATE gone from RUNNING the same event cancels (N5). -/
theorem test_snapshot_completes :
    after (exec .snapshot (busy run .snapshot .snapshot)) (fun t => (t.lag, t.wend, t.r, t.statusWord)) =
      some (1, 128, 128, 0x00000001) ∧
    after (exec .snapshot { busy run .snapshot .snapshot with mode := .faulted })
      (fun t => (t.r, t.cbusy, t.statusWord)) = some (0, false, 0x00000103) := by
  decide +kernel

/-! ### The transient detector and the spectral analyzer -/

/-- T2: one sample of 1.0. -/
theorem test_transient_rms :
    after (exec .transient (busy (poke .win 2047 0x3F800000 run) .transient .transient))
      (fun t => (t.tRms, t.tFlux, t.tFlags.tdet, t.prevRms)) =
      some (0x3DB504F3, 0x3DB504F3, true, 0x3DB504F3) := by
  decide +kernel

/-- T10 with a previous RMS of 0.5: a decay never flags. -/
theorem test_transient_decay :
    after (exec .transient (busy { run with prevRms := 0x3F000000 } .transient .transient))
      (fun t => (t.tRms, t.tFlux, t.tFlags.tdet)) = some (0, 0xBF000000, false) := by
  decide +kernel

/-- Z2: WIN is scaled by the coefficient of its place among the newest ALEN samples. -/
theorem test_window :
    after (exec .window (busy (poke .wcoef 1 0x388250CE (poke .win 1537 0x40000000 short)) .window .window))
      (fun t => (t.elem .pad 1, t.cbusy)) = some (0x390250CE, false) := by
  decide +kernel

/-- Z3: PAD from ALEN on is cleared. -/
theorem test_zeropad :
    after (exec .zeropad (busy (poke .pad 512 0x3F800000 (poke .pad 511 0x3F800000 short)) .zeropad .zeropad))
      (fun t => (t.elem .pad 511, t.elem .pad 512)) = some (0x3F800000, 0) := by
  decide +kernel

/-- F2, by law (c): an impulse of 2.0 gives 2.0 in every bin. Four inputs stand for NFFT. -/
theorem test_fft_impulse : (fftBin 4 [0x40000000, 0, 0, 0x80000000] 1).1 = 0x40000000 := by decide +kernel

/-- M1, M2, M5, M6 and M7. -/
theorem test_mag_modulus :
    modulus 0x40400000 0x40800000 = 0x40A00000 ∧ modulus 0x3F800000 0x3F800000 = 0x3FB504F3 ∧
    modulus 0x60AD78EC 0 = 0x7F800000 ∧ modulus 0x7FC00000 0 = 0x7FC00000 ∧ modulus 1 0 = 0 := by
  decide +kernel

/-- W1, W4, W5 and W6 on short spectra: the mean, the strict scan above DC, and a NaN that never wins. -/
theorem test_whiten :
    meanMag [0, 0, 0, 0x40800000] 4 = 0x3F800000 ∧ argmax [0, 0, 0, 0x7FC00000, 0, 0x3F800000] = 5 ∧
    argmax [0, 0, 0x3F800000, 0x3F800000] = 2 ∧ argmax [0x45001000, 0, 0] = 1 := by
  decide +kernel

/-- W2's update of the floor. -/
theorem test_whiten_floor : floorEstimate false 0x3F800000 0x3D800000 0x40000000 = 0x3F880000 := by decide +kernel

/-- Sample entries of the window tables (R99, section 2.5). -/
theorem test_window_table :
    blackmanHarris fixOne = 0x387BA882 ∧ hann fixOne = 0 ∧ (windowHalf .hann 512).getD 1 0 = 0x381E87C4 ∧
    (windowHalf .blackmanHarris 512).getD 255 0 = 0x3F7FFE91 := by
  decide +kernel

/-! ### The chord solver -/

/-- S1 at NFFT 2048 on the spectrum's first bins: bin 14 is removed with bin 7, which lies at 164.0625 Hz, note 52. -/
theorem test_solve_harmonic :
    solve short.lat false [0, 0, 0, 0, 0, 0, 0, 0x41000000, 0, 0, 0, 0, 0, 0, 0x40800000, 0] =
      ⟨List.replicate 16 0, [⟨52, 7, 0x43241000, 0x41000000⟩], false⟩ := by
  decide +kernel

/-- S4: silence gates. -/
theorem test_solve_gated :
    after (exec .solve (busy (poke .wht 7 0x41000000 { short with tRms := 0x38800000 }) .solve .solve))
      (fun t => (t.wNc, t.elem .scr 7, t.tFlags.gated, t.tFlags.capped)) = some (0, 0x41000000, true, false) := by
  decide +kernel

/-- S11's window: 100 cents about bin 14 hold no other bin, and about bin 100 hold bins 95 to 105. -/
theorem test_cents_window :
    near { Latched.default with hunit := .cents, htol := 0x42C80000 } 14 = [14] ∧
    near { Latched.default with hunit := .cents, htol := 0x42C80000 } 100 = List.range' 95 11 := by
  decide +kernel

/-- Boundary bins of the MIDI table at NFFT 4096 (R114). -/
theorem test_midi :
    midi Latched.default 1 = 6 ∧ midi Latched.default 24 = 61 ∧ midi Latched.default 25 = 62 ∧
    midi Latched.default 1101 = 127 ∧ midi Latched.default 2048 = 127 := by
  decide +kernel

/-! ### The sequencer and host control -/

/-- R120: PUBLISH counts, copies, and pends STEP_DONE. -/
theorem test_publish :
    after (exec .publish (busy { run with wNc := 1, wc := ⟨40, 7, 0, 0⟩ :: List.replicate 15 ⟨1, 1, 1, 1⟩, tRms := 5 }
        .publish .publish))
      (fun t => (t.bank.seq, t.bank.rms, t.cand.getD 0 Cand.zero, t.cand.getD 1 Cand.zero, t.irqPend, t.cbusy)) =
      some (1, 5, ⟨40, 7, 0, 0⟩, ⟨0, 0, 0, 0⟩, 0b000001, false) := by
  decide +kernel

/-- R121: after stage 4 a STEP is at stage 5. -/
theorem test_step_advances :
    after (exec .step (busy short .step .zeropad)) (fun t => (t.cstage, t.cbusy, t.curcmd)) =
      some (.fft, true, 0x60) := by
  decide +kernel

/-- N4: a STEP held in its wait is cancelled by teardown and publishes nothing. -/
theorem test_step_cancelled :
    after (exec .step { busy run .step .snapshot with mode := .stopping })
      (fun t => (t.mode, t.cbusy, t.cwait, t.irqPend, t.bank.seq)) = some (.idle, false, false, 0b100000, 0) := by
  decide +kernel

/-- R124's example: an illegal sample rate is a CONFIG fault. -/
theorem test_start_config_fault :
    after (exec .start { State.reset with cfg := { Cfg.default with fs := 44100 } })
      (fun t => (t.mode, t.fault, t.fcause, t.finfo)) = some (.idle, 0b0000100, 3, 0x80) := by
  decide +kernel

/-- START outside IDLE is NOTALLOWED. -/
theorem test_start_not_allowed :
    after (exec .start run) (fun t => (t.mode, t.fcause, t.finfo)) = some (.running, 7, 0x80) := by
  decide +kernel

/-- R127's example. -/
theorem test_stop : after (exec .stop run) (fun t => (t.mode, t.irqPend)) = some (.idle, 0b100000) := by decide +kernel

/-- R128's example. -/
theorem test_clrfault :
    after (exec .clrfault { run with mode := .faulted, fault := 1, fcause := 1, finfo := 127 })
      (fun t => (t.mode, t.fault, t.fcause, t.finfo, t.irqPend)) = some (.idle, 0, 0, 0, 0b100000) := by
  decide +kernel

/-- R129's example, with a command running. -/
theorem test_srst :
    after (exec (.srst 0xA5) (busy run .step .fft)) (fun t => (t.statusWord, t.irqPend, t.resets)) =
      some (0, 0, 1) := by
  decide +kernel

/-! ### The bus and a step -/

/-- P-16: PDATA stages. -/
theorem test_pdata :
    after (busWrite 0x018 4 0x3F000000 { run with stgCnt := 5 }) (fun t => (t.stgCnt, t.stg.readWord 20)) =
      some (6, 0x3F000000) := by
  decide +kernel

/-- R72: an unassigned address, a misaligned one and an RO register. -/
theorem test_bus_errors :
    (busRead 0x128 4 run).finfo = 0x128 ∧ (busRead 0x002 4 run).fcause = 6 ∧
    after (busWrite 0x020 4 5 run) (fun t => (t.w, t.busError, t.fault)) = some (0, true, 0b0100000) := by
  decide +kernel

/-- A fetched word runs in the next step: SRST, START on an illegal configuration, and a PUSH ignored in IDLE. -/
theorem test_fetch_runs :
    after (step (State.reset.withFetchWord 32 0xA583)) (·.resets) = some 1 ∧
    after (step (({ State.reset with cfg := { Cfg.default with maxn := 17 } } : State).withFetchWord 32 0x80))
      (·.finfo) = some 0xA4 ∧
    after (step (State.reset.withFetchWord 32 0x0101)) (·.igncnt) = some 1 := by
  decide +kernel

/-- A SNAPSHOT held in RUNNING with no step available. -/
def held : State :=
  { run with cbusy := true, cwait := true, cstage := .snapshot, curcmd := encode .snapshot }

/-- U12 and R149: a WAITIDLE that only the held sequencer could end is stuck; a STOP behind nothing is not. -/
theorem test_stuck :
    ({ held with hostProg := [waitIdle] } : State).isStuck = true ∧
    step { held with hostProg := [waitIdle] } = .fault .stuck ∧ step held = .fault .stuck ∧
    ({ held with hostProg := [issue .stop, waitIdle] } : State).isStuck = false ∧
    after (step { held with hostProg := [issue .stop, waitIdle] }) (·.mode) = some .stopping := by
  refine ⟨by decide +kernel, ?_, ?_, by decide +kernel, by decide +kernel⟩
  · rw [step, if_pos (by decide +kernel)]
  · rw [step, if_pos (by decide +kernel)]

/-- R141: the block performs the Host's PUSH like the Producer's; the launch's mark tells them apart. -/
theorem test_host_push :
    after (step { run with stgCnt := 128, hostProg := [issue (.push 1)] }) (fun t => (t.w, t.refusedMark)) =
      some (128, true) ∧
    after (step { run with stgCnt := 128, producerProg := [issue (.push 1)] }) (fun t => (t.w, t.refusedMark)) =
      some (128, false) := by
  decide +kernel

/-- R91: a POLL stays until its condition is met. -/
theorem test_poll :
    after (step { run with hostProg := [pollFor 0x00C 0x3 0x2] }) (fun t => (t.hostProg.length, t.busData)) =
      some (1, 1) ∧
    after (step { run with hostProg := [pollFor 0x00C 0x3 0x1] }) (·.hostProg.length) = some 0 := by
  decide +kernel

/-! ### Witnesses: states that meet each statement's hypotheses -/

/-- `S_run` with the Host's program and the schedule laid down. -/
def hostNext (ops : List AgentOp) : State := { run with hostProg := ops, sched := [.host] }

theorem executing_busy (s : State) (i : Instr) (st : Stage) : (busy s i st).executing i = true := by
  simp [State.executing, busy]

theorem elem_short (g : Region) (i : Nat) : short.elem g i = 0 := by
  show wordOfBytes (0 : Byte) 0 0 0 = 0; decide

theorem elem_busy (s : State) (i : Instr) (st : Stage) (g : Region) (n : Nat) : (busy s i st).elem g n = s.elem g n := rfl

theorem session_run (ops : List AgentOp) (l : List Agent) : SessionInv { run with hostProg := ops, sched := l } where
  idle_free := by intro; rfl
  stopping_busy := by intro h; simp [run] at h
  wait_iff := by simp [run, State.reset]
  free := by intro; exact ⟨rfl, rfl⟩
  busy := by intro h; simp [run, State.reset] at h

theorem session_held (ops : List AgentOp) : SessionInv { held with hostProg := ops } where
  idle_free := by intro h; simp [held, run] at h
  stopping_busy := by intro; rfl
  wait_iff := by simp [held]
  free := by intro h; simp [held] at h
  busy := by intro; exact ⟨.snapshot, rfl, rfl, by simp [held, Instr.stages]⟩

theorem cursor_run (w : Word) (h : w.toNat % 128 = 0 ∧ w.toNat ≤ 2048) : CursorInv { run with w := w } := by
  constructor <;> simp [State.lagSamples, run, State.reset, Config.step, Config.cap] <;> omega

theorem next_of_after {α : Type} {o : Host.Outcome State Fault Refusal} {f : State → α} {v : α}
    (h : after o f = some v) : ∃ t, o = .next t ∧ f t = v := by
  cases o with
  | next t => exact ⟨t, rfl, by simpa [after] using h⟩
  | fault r => simp [after] at h
  | refused r => simp [after] at h

theorem legal_reset (c : CfgReg) : LegalValue c (State.reset.cfg.get c) := by
  cases c <;> simp only [LegalValue, FiniteField] <;> decide +kernel

theorem witness_EncodingsRoundTrip :
    (Instr.push 255).WellFormed ∧ (Instr.srst 0xA5).WellFormed ∧ Port.ccmd ≠ (Instr.srst 0xA5).port := by decide

theorem witness_IllegalWordIsOnlyRecorded :
    (∀ i : Instr, i.port = .pcmd → i.opc ≠ opcField 0x00000011) ∧ (∀ i, decode .pcmd 0x00000011 ≠ .ok i) ∧
    (∀ i, decode .hcmd 0x0000A483 ≠ .ok i) := by
  refine ⟨?_, ?_, ?_⟩
  · intro i; cases i <;> simp [Instr.port, Instr.opc, opcField]
  · rw [show decode .pcmd 0x00000011 = .error .noSuchOpcode by decide]; simp
  · rw [show decode .hcmd 0x0000A483 = .error .wrongKey by decide]; simp

theorem witness_StepRunsTheDecodedCommand :
    (∃ u, chooseAgent (hostNext [issue .stop]) = some (.host, u)) ∧
    (hostNext [issue .stop]).prog .host = .write (BitVec.ofNat 18 Port.hcmd.addr) 4 0x81 :: [] ∧
    decode .hcmd 0x81 = .ok .stop ∧
    (∃ u, chooseAgent { run with producerProg := [issue (.push 1)] } = some (.producer, u)) ∧
    (∃ u, chooseAgent (busy run .step .fft) = some (.sequencer, u)) ∧
    decode .ccmd (busy run .step .fft).curcmd = .ok .step :=
  ⟨⟨_, rfl⟩, rfl, by decide, ⟨_, rfl⟩, ⟨_, rfl⟩, by decide⟩

theorem witness_FetchWordRunsNext :
    decodeTableWord 32 0x60 = some .step ∧ decodeTableWord 16 0xFF01 = some (.push 255) := by decide

theorem witness_BlockAlwaysProceeds :
    (SessionInv (hostNext [rd 0]) ∧ (hostNext [rd 0]).enabled .host = true) ∧
    (SessionInv { run with hostProg := [], sched := [] } ∧
      ∀ who, ({ run with hostProg := [], sched := [] } : State).enabled who = false) ∧
    (hostNext [rd 0]).stalled = false ∧
    (SessionInv { held with hostProg := [waitIdle] } ∧ ({ held with hostProg := [waitIdle] } : State).stalled = true) :=
  ⟨⟨session_run _ _, rfl⟩, ⟨session_run _ _, by intro who; cases who <;> decide +kernel⟩, by decide +kernel,
    session_held _, by decide +kernel⟩

theorem witness_RefusedAccesses :
    ReadRefused run 0x128 4 ∧ ReadRefused run 0x001 4 ∧ ReadRefused run 0x000 2 ∧
    (¬ ReadRefused run 0x010 4 ∧ rightsAt run.lat 0x010 = some .wo) ∧
    WriteRefused run 0x124 4 ∧ WriteRefused run 0x0BC 4 ∧ WriteRefused { run with cbusy := true } 0x29FFC 4 ∧
    (¬ WriteRefused run 0x29FFC 4 ∧ rightsAt run.lat 0x29FFC ≠ some .wo) ∧
    (¬ WriteRefused State.reset 0x080 4 ∧ rightsAt State.reset.lat 0x080 ≠ some .wo) := by
  refine ⟨?_, ?_, ?_, ?_, ?_, ?_, ?_, ?_, ?_⟩ <;> decide +kernel

theorem witness_ReadsHaveNoSideEffects : ¬ ReadRefused run 0x2A000 4 ∧ ¬ ReadRefused short 0x307FC 4 := by
  decide +kernel

theorem witness_ArrayWrites :
    Region.wht ∈ ([.win, .pad, .xre, .xim, .mag, .wht] : List Region) ∧ 2048 < Region.bound run.lat .wht ∧
    ((run.mode = .idle ∨ run.mode = .running) ∧ run.cbusy = false) ∧
    ¬((({ run with mode := .faulted } : State).mode = .idle ∨ ({ run with mode := .faulted } : State).mode = .running) ∧
      ({ run with mode := .faulted } : State).cbusy = false) := by
  decide +kernel

theorem witness_PlainWrites : State.reset.mode = .idle ∧ CfgReg.alen ≠ CfgReg.nfft := by decide

theorem witness_StatusShowsItsFields : CursorInv { run with w := 2048 } ∧ CursorInv { run with w := 0 } :=
  ⟨cursor_run _ (by decide), cursor_run _ (by decide)⟩

theorem witness_PendingBits :
    (∃ t, step { hostNext [wr 0x040 1] with irqPend := 0b000001 } = .next t ∧ t.irqPend = 0) ∧
    (∃ t, step { hostNext [issue (.srst 0xA5)] with irqPend := 0b100000 } = .next t ∧ t.irqPend = 0) :=
  ⟨next_of_after (by decide +kernel), next_of_after (by decide +kernel)⟩

/-- One state for each branch of PUSH; the lag below CAP by one step, and at CAP. -/
theorem witness_PushFollowsItsRule :
    State.reset.mode ≠ .running ∧ (run.mode = .running ∧ (0 : BitVec 8) ≠ 1) ∧
    (({ run with stgCnt := 127 } : State).mode = .running ∧ ({ run with stgCnt := 127 } : State).stgCnt.toNat ≠ 128) ∧
    (({ run with stgCnt := 128, w := 1920 } : State).stgCnt.toNat = 128 ∧
      (({ run with stgCnt := 128, w := 1920 } : State).w - ({ run with stgCnt := 128, w := 1920 } : State).r).toNat < 2048) ∧
    2048 ≤ (({ run with stgCnt := 128, w := 2048 } : State).w - ({ run with stgCnt := 128, w := 2048 } : State).r).toNat := by
  decide

theorem witness_Pdata : run.stgCnt.toNat < 128 ∧ ¬({ run with stgCnt := 255 } : State).stgCnt.toNat < 128 := by decide

theorem witness_NopFollowsItsRule :
    (run.auto = false ∧ run.cbusy = false) ∧ ({ run with auto := true } : State).auto = true ∧
    (({ run with cbusy := true } : State).auto = false ∧ ({ run with cbusy := true } : State).cbusy = true) := by
  decide

theorem witness_SnapshotFollowsItsRule :
    (run.turn ≠ .sequencer ∧ run.auto = false ∧ run.cbusy = false ∧ run.mode = .running) ∧
    (∃ s : State, s.executing .snapshot = true ∧ (s.w - s.r).toNat < 128 ∧ s.mode = .running) ∧
    (∃ s : State, s.executing .snapshot = true ∧ s.mode ≠ .running) ∧
    (∃ s : State, s.executing .snapshot = true ∧ 128 ≤ (s.w - s.r).toNat ∧ s.mode = .running) :=
  ⟨by decide, ⟨{ busy run .snapshot .snapshot with w := 0 }, by decide⟩,
    ⟨{ busy run .snapshot .snapshot with mode := .stopping }, by decide⟩, ⟨busy run .snapshot .snapshot, by decide⟩⟩

theorem witness_StepsAreConserved :
    ∃ s t : State, CursorInv s ∧ step s = .next t ∧ s.mode ≠ .idle ∧ t.mode ≠ .idle ∧ s.ovrcnt.toNat < 2 ^ 32 - 1 := by
  obtain ⟨t, h1, h2⟩ : ∃ t, step { run with w := 128, hostProg := [rd 0] } = .next t ∧ t.mode = .running :=
    next_of_after (by decide +kernel)
  exact ⟨{ run with w := 128, hostProg := [rd 0] }, t, ⟨by decide, by decide⟩, h1, by decide, by simp [h2], by decide⟩

theorem witness_WindowMultiplies : (busy run .window .window).executing .window = true := executing_busy ..
theorem witness_ZeropadClears : (busy run .zeropad .zeropad).executing .zeropad = true := executing_busy ..
theorem witness_MagTakesTheModulus : (busy run .mag .mag).executing .mag = true := executing_busy ..
theorem witness_WhitenFollowsItsRule : (busy run .whiten .whiten).executing .whiten = true := executing_busy ..
theorem witness_TransientFollowsItsRule : (busy run .transient .transient).executing .transient = true := executing_busy ..
theorem witness_PublishCopiesTheStep : (busy run .publish .publish).executing .publish = true := executing_busy ..

/-- Zero inputs meet every law's hypotheses, an impulse of 2.0 those of law (c); two states agree for law (a). -/
theorem witness_TransformObeysItsLaws :
    (busy short .fft .fft).executing .fft = true ∧
    (∀ n, n < short.lat.nfftN →
      isZero ((busy short .fft .fft).elem .pad n) = true ∧ isFinite ((busy short .fft .fft).elem .pad n) = true) ∧
    ((List.range short.lat.nfftN).map fun n => fmag ((busy short .fft .fft).elem .pad n)).sum < 2 ^ (127 + 149) ∧
    (isFinite ((poke .pad 0 0x40000000 short).elem .pad 0) = true ∧
      ∀ n, 1 ≤ n → n < short.lat.nfftN → isZero ((poke .pad 0 0x40000000 short).elem .pad n) = true) := by
  refine ⟨executing_busy .., ?_, ?_, ?_, ?_⟩
  · intro n _
    rw [elem_busy, elem_short]; decide
  · simp only [elem_busy, elem_short, show fmag 0 = 0 by decide]
    simp
  · decide +kernel
  · intro n h1 _
    have h : (poke .pad 0 0x40000000 short).elem .pad n = short.elem .pad n := by
      apply Memory.readWord_writeWords_outside
      right
      simp [Region.addr, Region.base]
      omega
    rw [h, elem_short]; decide

theorem witness_TransientProperty :
    (busy run .transient .transient).executing .transient = true ∧ isFinite run.prevRms = true ∧
    flt run.cfg.tthr 0 = false ∧ rmsOf run.currentFrame = run.prevRms ∧
    isFinite (rmsOf (poke .win 2047 0x3F800000 run).currentFrame) = true ∧ isFinite run.cfg.tthr = true ∧
    0 ≤ fval run.prevRms ∧
    (2 : Int) ^ (Nat.log2 (fmag (rmsOf (poke .win 2047 0x3F800000 run).currentFrame)) - 23) <
      2 * (fval (rmsOf (poke .win 2047 0x3F800000 run).currentFrame) - fval run.prevRms - fval run.cfg.tthr) :=
  ⟨executing_busy .., by decide +kernel, by decide +kernel, by decide +kernel, by decide +kernel, by decide +kernel,
    by decide +kernel, by decide +kernel⟩

theorem witness_BinFrequencies : 2048 < run.lat.bins ∧ 1024 < short.lat.bins := by decide

theorem witness_PeakExtraction : 2 ≤ ([0, 0] : List Word).length := by decide

/-- The lowest and the highest target, in both units. -/
theorem witness_ToleranceWindow :
    finiteNonneg Latched.default.htol = true ∧ 1 * 1 ≤ Latched.default.bins - 1 ∧ 2 * 1024 ≤ Latched.default.bins - 1 ∧
    Latched.default.hunit = .hz ∧ ({ Latched.default with hunit := .cents } : Latched).hunit = .cents := by
  decide +kernel

theorem witness_MidiNote : 1 < Latched.default.bins ∧ 2048 < Latched.default.bins ∧ 1024 < short.lat.bins := by decide

theorem witness_SolveFollowsItsRule :
    (busy run .solve .solve).executing .solve = true ∧ flt run.tRms run.lat.silence = true ∧
    flt ({ run with tRms := 0x39000000 } : State).tRms run.lat.silence = false :=
  ⟨executing_busy .., by decide +kernel, by decide +kernel⟩

theorem witness_SolveLaws :
    (busy short .solve .solve).executing .solve = true ∧
    (∀ k, k < short.lat.bins → finiteNonneg ((busy short .solve .solve).elem .wht k) = true) ∧
    finiteNonneg short.lat.nfloor = true ∧ finiteNonneg short.lat.hsub = true ∧ finiteNonneg short.lat.htol = true := by
  refine ⟨executing_busy .., ?_, by decide +kernel, by decide +kernel, by decide +kernel⟩
  intro k _
  rw [elem_busy, elem_short]; decide

theorem witness_AcceptanceFollowsItsOrder :
    run.turn ≠ .sequencer ∧ decode .ccmd 0x111 = .error .strayArgument ∧ decode .ccmd 0x60 = .ok .step := by decide

theorem witness_CommandsRunToTheirFinish :
    ∀ i ∈ ([.transient, .window, .zeropad, .fft, .mag, .whiten, .solve, .publish] : List Instr),
      (busy run i .none).executing i = true := fun _ _ => executing_busy ..

theorem witness_StepRunsItsStages :
    (∀ st, (busy run .step st).executing .step = true ∧ (busy run .step st).cstage = st) ∧
    ((busy run .step .snapshot).mode = .running ∧
      128 ≤ ((busy run .step .snapshot).w - (busy run .step .snapshot).r).toNat) ∧
    (∃ s : State, s.executing .step = true ∧ s.cstage = .snapshot ∧ s.mode ≠ .running) ∧
    (∃ s : State, s.executing .step = true ∧ s.cstage = .snapshot ∧ s.mode = .running ∧ (s.w - s.r).toNat < 128) :=
  ⟨fun st => ⟨executing_busy .., rfl⟩, by decide, ⟨{ busy run .step .snapshot with mode := .faulted }, by decide⟩,
    ⟨{ busy run .step .snapshot with w := 0 }, by decide⟩⟩

theorem witness_StepRunsNineEvents :
    (busy run .step .snapshot).executing .step = true ∧ (busy run .step .snapshot).cstage = .snapshot ∧
    (busy run .step .snapshot).mode = .running ∧
    128 ≤ ((busy run .step .snapshot).w - (busy run .step .snapshot).r).toNat := by decide

theorem witness_AutoStart :
    run.cbusy = false ∧ ∃ u, chooseAgent { run with auto := true, w := 128 } = some (.sequencer, u) :=
  ⟨rfl, _, rfl⟩

theorem witness_SeqlockDetectsEveryPublish :
    ∃ s t : State, SessionRun 1 s t ∧ 1 < 2 ^ 32 ∧ t.bank.seq = s.bank.seq := by
  obtain ⟨t, h1, h2⟩ : ∃ t, step (hostNext [rd 0]) = .next t ∧ (t.mode, t.bank.seq) = (.running, 0) :=
    next_of_after (by decide +kernel)
  simp only [Prod.mk.injEq] at h2
  exact ⟨hostNext [rd 0], t, .tail (.refl _) h1 (by decide) (by simp [h2.1]), by norm_num, h2.2⟩

/-- The first and the last register illegal, and the legal configuration. -/
theorem witness_StartFollowsItsRule :
    run.mode ≠ .idle ∧ State.reset.mode = .idle ∧ ¬ LegalValue .fs 44100 ∧ ¬ LegalValue .silence qNaN ∧
    (∀ d : CfgReg, d.addr < CfgReg.silence.addr →
      LegalValue d (({ Cfg.default with silence := qNaN } : Cfg).get d)) := by
  refine ⟨by decide, by decide, ?_, ?_, ?_⟩
  · show ¬ (44100 : Word).toNat = 48000; decide
  · simp only [LegalValue, FiniteField]; decide +kernel
  · intro d hd
    cases d
    case silence => exact absurd hd (by decide)
    all_goals exact legal_reset _

theorem witness_StartInitialisesTheSession :
    State.reset.mode = .idle ∧ ∀ c : CfgReg, LegalValue c (State.reset.cfg.get c) := ⟨rfl, legal_reset⟩

theorem witness_WindowTable : 0 < ALen.len512.toNat ∧ 511 < ALen.len512.toNat ∧ 2047 < ALen.len2048.toNat := by decide

theorem witness_StopFollowsItsRule :
    (({ run with cbusy := true } : State).mode = .running ∧ ({ run with cbusy := true } : State).cbusy = true) ∧
    (run.mode = .running ∧ run.cbusy = false) ∧ State.reset.mode ≠ .running := by decide

theorem witness_ClrfaultFollowsItsRule :
    ∃ s u : State, (s.mode = .faulted ∧ s.cbusy = true) ∧ (u.mode = .faulted ∧ u.cbusy = false) ∧
      run.mode ≠ .faulted :=
  ⟨{ run with mode := .faulted, cbusy := true }, { run with mode := .faulted }, by decide⟩

theorem witness_OperationsRoundOnce :
    isFinite 0x7F7FFFFF = true ∧ isZero 0x00000001 = false ∧ isNaN 0x7F800001 = true ∧ 0 ≤ fval 0x7F7FFFFF ∧
    isNaN (fadd qNaN 0) = true ∧ isNaN (fmul qNaN 0) = true ∧ isNaN (fdiv 0 0) = true ∧ isNaN (fsqrt 0x80000001) = true := by
  decide +kernel

/-- Both infinities, both zeros, a NaN, and finite operands of both signs. -/
theorem witness_SpecialOperands :
    isInf 0x7F800000 = true ∧ isInf 0xFF800000 = true ∧ isNaN 0x00000001 = false ∧ isFinite 0x80000001 = true ∧
    isZero 0x80000000 = true ∧ isFinite 0x80000000 = true ∧ isNaN qNaN = true ∧ isZero 0x80000001 = false ∧
    fsign 0x80000001 = true ∧ fval 0x3F800000 + fval 0xBF800000 = 0 ∧ fsign 0x00000001 = false := by
  decide +kernel

/-- A state that meets every invariant, and its next state. -/
theorem witness_InvariantsAreKept :
    ∃ s t : State, step s = .next t ∧ CursorInv s ∧ SessionInv s ∧ MemoryInv s ∧ CandidateInv s ∧ ConfigInv s ∧
      FaultInv s := by
  obtain ⟨t, h1, _⟩ : ∃ t, step (hostNext [issue .stop]) = .next t ∧ t.mode = .idle := next_of_after (by decide +kernel)
  refine ⟨hostNext [issue .stop], t, h1, ⟨by decide, by decide⟩, session_run _ _, ⟨?_, ?_, ?_, ?_⟩,
    ⟨rfl, rfl, by decide, by decide⟩, ⟨fun _ => ?_, fun _ => ?_⟩, ⟨rfl, .inl rfl⟩⟩
  · exact ⟨.nil, fun c hc => absurd hc (List.not_mem_nil)⟩
  · exact ⟨.nil, fun c hc => absurd hc (List.not_mem_nil)⟩
  · exact fun c hc => absurd hc (List.not_mem_nil)
  · exact fun c hc => absurd hc (List.not_mem_nil)
  · exact show firstIllegal Cfg.default = none by decide +kernel
  · exact show Latched.default = latch Cfg.default by decide +kernel

theorem witness_CursorInvariantIsKept : Reachable (State.launch [] [] [] []) := ⟨[], [], [], [], .refl _⟩

/-- A start state that meets every invariant, with programs for all agents. -/
theorem witness_InvariantsHoldAtReset :
    CursorInv run ∧ SessionInv { run with hostProg := [], sched := [] } ∧
      (run.launchFrom [issue .stop] [issue (.push 1)] [rd 0] [.host]).prog .host = [issue .stop] :=
  ⟨cursor_run 0 (by decide), session_run _ _, rfl⟩

/-- A read, a POLL unmet, a write to the Producer's port and another one. -/
theorem witness_AgentsPerformTheirPrograms :
    (∃ u, chooseAgent (hostNext [rd 0]) = some (.host, u)) ∧ (hostNext [rd 0]).prog .host = .read 0 4 :: [] ∧
    (∃ u, chooseAgent (hostNext [pollFor 0x00C 0x3 0x2]) = some (.host, u) ∧
      (hostNext [pollFor 0x00C 0x3 0x2]).stalled = false ∧
      (busRead 0x00C 4 { u with turn := .host }).busData &&& 0x3 = 0x1) ∧
    (hostNext [wr 0x018 5]).prog .host = .write 0x018 4 5 :: [] ∧
    (hostNext [wr 0x008 1]).prog .host = .write 0x008 4 1 :: [] :=
  ⟨⟨_, rfl⟩, rfl, ⟨_, rfl, by decide +kernel, by decide +kernel⟩, rfl, rfl⟩

theorem locate_low (l : Latched) {a : Nat} {r : Reg} (h : regAt a = some r) : locate l a = .reg r := by
  simp [locate, h]

/-- A Host at a POLL that is never met, outside any session. -/
def polling (n : Nat) : State :=
  { State.reset with
    hostProg := [pollFor 0x000 0x1 0x1]
    turns := n
    waitFrom := n
    busData := 0x41534646 }

theorem step_polling (n : Nat) : StepsTo (polling n) (polling (n + 1)) := by
  have hc : chooseAgent (polling n) = some (.host, (polling n).countChoice .host) := rfl
  unfold StepsTo step
  rw [if_neg (by simp [State.stalled, State.held, polling, State.reset]), hc]
  have hr : ∀ s : State, busRead (BitVec.ofNat 18 0x000) 4 s = answer Config.id s := fun s => by
    rw [busRead, if_pos (by decide), State.readLocation,
      locate_low _ (show regAt (BitVec.ofNat 18 0x000 : Addr).toNat = some .id by decide)]
    rfl
  show Host.Outcome.next (if _ then _ else _) = _
  rw [hr, if_neg (by rw [answer_busData]; decide)]
  rfl

/-- An enabled agent; an enabled sequencer passed over by a laid-down choice; a run without end. -/
theorem witness_SequencerIsServedFairly :
    (hostNext [rd 0]).enabled .host = true ∧
    (∃ t, PassedOver 1 { busy run .step .fft with hostProg := [rd 0], sched := [.host] } t) ∧
    ∀ n, StepsTo (polling n) (polling (n + 1)) := by
  refine ⟨rfl, ?_, step_polling⟩
  obtain ⟨t, h, _⟩ : ∃ t, step { busy run .step .fft with hostProg := [rd 0], sched := [.host] } = .next t ∧
      t.busData = 0x41534646 := next_of_after (by decide +kernel)
  refine ⟨t, .tail (.refl _) rfl ?_ h⟩
  rintro ⟨u, hu⟩
  rw [chooseAgent_head (who := .host) (rest := []) rfl rfl] at hu
  simp at hu

/-- A stuck run with a read left to do, a run that is over, and a stuck run with nothing left. -/
theorem witness_StuckRunsStayStuck :
    (∃ t, SessionInv { held with hostProg := [rd 0] } ∧ ({ held with hostProg := [rd 0] } : State).isStuck = true ∧
      step { held with hostProg := [rd 0] } = .next t) ∧
    run.isOver = true ∧ (held.exhausted = true ∧ held.isStuck = true) := by
  obtain ⟨t, h, _⟩ : ∃ t, step { held with hostProg := [rd 0] } = .next t ∧ t.busData = 0x41534646 :=
    next_of_after (by decide +kernel)
  exact ⟨⟨t, session_held _, by decide +kernel, h⟩, by decide +kernel, by decide +kernel⟩

/-- STOP changes STATE, and is the Host's next event. -/
theorem witness_StateChanges :
    ∃ s t : State, SessionInv s ∧ step s = .next t ∧ t.mode ≠ s.mode := by
  obtain ⟨t, h1, h2⟩ : ∃ t, step (hostNext [issue .stop]) = .next t ∧ t.mode = .idle := next_of_after (by decide +kernel)
  exact ⟨_, t, session_run _ _, h1, by rw [h2]; decide⟩

/-- A PUSH moves W, and with the ring full also R; SRST clears the bank. -/
theorem witness_WritersOfCursorsAndResults :
    (∃ t, step { run with stgCnt := 128, w := 2048, producerProg := [issue (.push 1)] } = .next t ∧
      (t.w, t.r) = (2176, 128)) ∧
    (∃ t, step { hostNext [issue (.srst 0xA5)] with bank := { Bank.zero with seq := 1 } } = .next t ∧ t.bank.seq = 0) :=
  ⟨next_of_after (by decide +kernel), next_of_after (by decide +kernel)⟩

/-! A session with one committed frame and an accepted SNAPSHOT, for the round-trip law. -/

theorem step_sample {s : State} {sc : List Agent} {more : List AgentOp} {v : Word} (hs : s.sched = .producer :: sc)
    (hp : s.producerProg = sample v :: more) :
    step s = .next (stageSample v (answer 0 { s with sched := sc, turn := .producer, producerProg := more })) := by
  rw [step_of_sched hs (by simp [State.enabled, hp])
    (not_stalled_of_head (who := .producer) hp (fun _ _ _ => AgentOp.noConfusion))]
  simp only [agentEvent, State.prog, hp, sample, wr, performOp]
  rw [markRole_within (by decide), busWrite]
  rw [if_pos (by decide), show (BitVec.ofNat 18 0x018 : Addr).toNat = 0x018 by decide,
    locate_low _ (show regAt 0x018 = some .pdata by decide)]
  rfl

theorem history_samples (n : Nat) {s : State} {xs : List Word} {sc : List Agent} {more : List AgentOp}
    (h : SessionHistory xs s) (hm : s.mode = .running) (hs : s.sched = List.replicate n .producer ++ sc)
    (hp : s.producerProg = List.replicate n (sample 0) ++ more) (hc : s.stgCnt.toNat + n ≤ 128) :
    ∃ t, SessionHistory xs t ∧ t.stgCnt.toNat = s.stgCnt.toNat + n ∧ t.sched = sc ∧ t.producerProg = more ∧
      t.mode = .running ∧ t.w = s.w ∧ t.r = s.r ∧ t.hostProg = s.hostProg ∧ t.cbusy = s.cbusy ∧ t.auto = s.auto := by
  induction n generalizing s with
  | zero => exact ⟨s, h, by omega, by simpa using hs, by simpa using hp, hm, rfl, rfl, rfl, rfl, rfl⟩
  | succ n ih =>
    rw [List.replicate_succ, List.cons_append] at hs hp
    have hn := step_sample hs hp
    generalize hu : stageSample (0 : Word) (answer 0 { s with
        sched := List.replicate n .producer ++ sc
        turn := .producer
        producerProg := List.replicate n (sample 0) ++ more }) = u at hn
    have hcnt : u.stgCnt.toNat = s.stgCnt.toNat + 1 := by
      rw [← hu, stageSample_stgCnt, answer_stgCnt]
      rw [if_neg (by intro h; rw [h] at hc; simp at hc; omega), BitVec.toNat_add]
      simp; omega
    obtain ⟨t, t1, t2, t3⟩ := ih (.other h hn (by simp [hm]) (by simp [← hu, hm]) (by simp [← hu]))
      (by simpa [← hu] using hm) (by simp [← hu]) (by simp [← hu]) (by omega)
    exact ⟨t, t1, by omega, by simpa [← hu] using t3⟩

theorem step_snapshot_accepted {d : State} {sc : List Agent} (d1 : d.sched = .host :: sc)
    (d2 : d.hostProg = [issue .snapshot]) (d3 : d.mode = .running) (d4 : d.cbusy = false) (d5 : d.auto = false) :
    step d = .next (startCommand .snapshot .snapshot (answer 0 { d with
      sched := sc
      turn := .host
      hostProg := [] })) := by
  rw [step_of_sched d1 (by simp [State.enabled, d2])
    (not_stalled_of_head (who := .host) d2 (fun _ _ _ => AgentOp.noConfusion))]
  simp only [agentEvent, State.prog, d2, issue, wr, performOp]
  rw [markRole_within (by decide), busWrite]
  rw [if_pos (by decide), show (BitVec.ofNat 18 Instr.snapshot.port.addr : Addr).toNat = 0x01C by decide,
    locate_low _ (show regAt 0x01C = some (.port .ccmd) by decide)]
  simp only [submit, show decode .ccmd (encode .snapshot) = .ok .snapshot by decide, exec, execSnapshot]
  rw [if_neg (by simp [State.executing, State.setProg])]
  unfold accept
  rw [if_neg (by simp [State.setProg, d5]), if_neg (by simp [State.setProg, d4]), if_neg (by simp [State.setProg, d3])]
  rfl

theorem step_snapshot_event {e : State} {sc : List Agent} (e1 : e.cbusy = true) (e2 : e.curcmd = 0x11)
    (e6 : e.sched = .sequencer :: sc) (e7 : e.enabled .sequencer = true) : ∃ t, step e = .next t := by
  rw [step_of_sched e6 e7 (not_stalled_of_ready e7)]
  simp only [agentEvent, sequencerEvent, e1, if_true, e2, show decode .ccmd 0x11 = .ok .snapshot by decide, exec,
    execSnapshot, reduceCtorEq, if_false]
  split_ifs <;> exact ⟨_, rfl⟩

theorem step_push_commits {b : State} {sc : List Agent} (b2 : b.sched = .producer :: sc)
    (b3 : b.producerProg = [issue (.push 1)]) (b4 : b.mode = .running) (hb : b.stgCnt = 128)
    (hl : b.lagSamples < Config.cap) :
    step b = .next (commitFrame (answer 0 { b with
      sched := sc
      turn := .producer
      producerProg := [] })) := by
  rw [step_of_sched b2 (by simp [State.enabled, b3])
    (not_stalled_of_head (who := .producer) b3 (fun _ _ _ => AgentOp.noConfusion))]
  simp only [agentEvent, State.prog, b3, issue, wr, performOp]
  rw [markRole_within (by decide), busWrite]
  rw [if_pos (by decide), show (BitVec.ofNat 18 (Instr.push 1).port.addr : Addr).toNat = 0x014 by decide,
    locate_low _ (show regAt 0x014 = some (.port .pcmd) by decide)]
  simp only [submit, show decode .pcmd (encode (.push 1)) = .ok (.push 1) by decide, exec]
  rw [show execPush 1 _ = .next (commitFrame (overrunCheck _)) from by
    unfold execPush; rw [if_neg (by simp [State.setProg, b4]), if_neg (by decide), if_neg (by simp [State.setProg, hb])]]
  rw [overrunCheck, if_neg]
  · rfl
  · exact Nat.not_le.mpr hl

theorem witness_RoundTripLaw :
    ∃ (xs : List Word) (s t : State), SessionHistory xs s ∧ s.sequencerMoves ∧ s.cbusy = true ∧ s.curcmd = 0x11 ∧
      s.mode = .running ∧ 128 ≤ (s.w - s.r).toNat ∧ step s = .next t := by
  obtain ⟨a, ha, ha'⟩ : ∃ a, step (State.launch [issue .start, issue .snapshot]
        (List.replicate 128 (sample 0) ++ [issue (.push 1)]) []
        (.host :: (List.replicate 128 .producer ++ [.producer, .host, .sequencer]))) = .next a ∧
      (a.mode == .running && a.stgCnt == 0 && a.w == 0 && a.r == 0 && !a.cbusy && !a.auto &&
        a.sched == List.replicate 128 .producer ++ [.producer, .host, .sequencer] &&
        a.producerProg == List.replicate 128 (sample 0) ++ [issue (.push 1)] &&
        a.hostProg == [issue .snapshot]) = true := next_of_after (by decide +kernel)
  simp only [Bool.and_eq_true, beq_iff_eq, Bool.not_eq_true'] at ha'
  obtain ⟨⟨⟨⟨⟨⟨⟨⟨a1, a2⟩, a3⟩, a4⟩, a5⟩, a6⟩, a7⟩, a8⟩, a9⟩ := ha'
  obtain ⟨b, b0, b1, b2, b3, b4, b5, b6, b7, b8, b9⟩ :=
    history_samples 128 (.started ha (by rfl) a1) a1 a7 a8 (by rw [a2]; decide)
  have hb : b.stgCnt = 128 := BitVec.eq_of_toNat_eq (by rw [b1, a2]; rfl)
  have hpush := step_push_commits b2 b3 b4 hb (by simp [State.lagSamples, b5, b6, a3, a4, Config.cap])
  have hc := SessionHistory.committed b0 hpush b4 (by simpa using b4) (by simp)
  generalize hd : commitFrame _ = d at hpush hc
  have d1 : d.sched = [.host, .sequencer] := by simp [← hd]
  have d2 : d.hostProg = [issue .snapshot] := by simp [← hd, b7, a9]
  have d3 : d.mode = .running := by simp [← hd, b4]
  have d4 : d.cbusy = false := by simp [← hd, b8, a5]
  have d5 : d.auto = false := by simp [← hd, b9, a6]
  have d6 : d.w = 128 := by simp [← hd, b5, a3]
  have d7 : d.r = 0 := by simp [← hd, b6, a4]
  have hsnap := step_snapshot_accepted d1 d2 d3 d4 d5
  generalize he : startCommand _ _ _ = e at hsnap
  have e1 : e.cbusy = true := by simp [← he]
  have e2 : e.curcmd = 0x11 := by simp only [← he, startCommand_curcmd]; decide
  have e3 : e.mode = .running := by simp [← he, d3]
  have e4 : e.w = 128 := by simp [← he, d6]
  have e5 : e.r = 0 := by simp [← he, d7]
  have e6 : e.sched = [.sequencer] := by simp [← he]
  have e7 : e.enabled .sequencer = true := by
    simp [State.enabled, State.sequencerReady, e1, State.snapshotReady, State.lagSamples, e4, e5, Config.step]
  obtain ⟨t, ht⟩ := step_snapshot_event e1 e2 e6 e7
  exact ⟨_, e, t, .other hc hsnap (by simp [d3]) (by simp [e3]) (by rw [e4, d6]), ⟨_, chooseAgent_head e6 e7⟩, e1, e2, e3,
    by simp [e4, e5], ht⟩

end Sys2Proof.Machine.Tests
end

section
/-! SUPPORT. The agents and the schedule: what no event of an agent writes, where a port's address leads, the events of a
program as steps, and the bound on the events that pass an enabled sequencer over. -/

namespace Sys2Proof.Machine

/-! ### What no command and no access writes: the schedule, the turn and the programs -/

/-- The counters of the schedule, and the schedule as far as it is laid down. -/
def State.schedulePart (s : State) : Nat × Nat × List Agent := (s.turns, s.waitFrom, s.sched)

/-- The model's own fields that say whose event is next: the schedule, the turn and what is left of the programs. -/
def State.agentPart (s : State) : (Nat × Nat × List Agent) × Agent × List AgentOp × List AgentOp × List AgentOp :=
  (s.schedulePart, s.turn, s.hostProg, s.producerProg, s.readerProg)

theorem schedulePart_of_agentPart {s t : State} (h : t.agentPart = s.agentPart) : t.schedulePart = s.schedulePart :=
  congrArg Prod.fst h

@[simp] theorem setProg_schedulePart (s : State) (who : Agent) (ops : List AgentOp) :
    (s.setProg who ops).schedulePart = s.schedulePart := by
  cases who <;> rfl

section Operations
variable (s : State)

@[simp] theorem raiseFault_agentPart (c : FaultCode) (info : Word) : (raiseFault c info s).agentPart = s.agentPart := rfl
@[simp] theorem clearFault_agentPart : (clearFault s).agentPart = s.agentPart := rfl
@[simp] theorem answer_agentPart (data : Word) : (answer data s).agentPart = s.agentPart := rfl
@[simp] theorem raiseBusError_agentPart (a : Addr) : (raiseBusError a s).agentPart = s.agentPart := rfl
@[simp] theorem advance_agentPart (st : Stage) : (advance st s).agentPart = s.agentPart := rfl
@[simp] theorem startCommand_agentPart (i : Instr) (st : Stage) : (startCommand i st s).agentPart = s.agentPart := rfl
@[simp] theorem resetEvent_agentPart : (resetEvent s).agentPart = s.agentPart := rfl
@[simp] theorem ignorePush_agentPart : (ignorePush s).agentPart = s.agentPart := rfl
@[simp] theorem rejectFrame_agentPart (c : FaultCode) (info : Word) : (rejectFrame c info s).agentPart = s.agentPart := rfl
@[simp] theorem commitFrame_agentPart : (commitFrame s).agentPart = s.agentPart := rfl
@[simp] theorem takeSnapshot_agentPart : (takeSnapshot s).agentPart = s.agentPart := rfl
@[simp] theorem transientEvent_agentPart : (transientEvent s).agentPart = s.agentPart := by
  simp [State.agentPart, State.schedulePart]
@[simp] theorem windowEvent_agentPart : (windowEvent s).agentPart = s.agentPart := by
  simp [State.agentPart, State.schedulePart]
@[simp] theorem zeropadEvent_agentPart : (zeropadEvent s).agentPart = s.agentPart := by
  simp [State.agentPart, State.schedulePart]
@[simp] theorem fftEvent_agentPart : (fftEvent s).agentPart = s.agentPart := by
  simp [State.agentPart, State.schedulePart]
@[simp] theorem magEvent_agentPart : (magEvent s).agentPart = s.agentPart := by
  simp [State.agentPart, State.schedulePart]
@[simp] theorem whitenEvent_agentPart : (whitenEvent s).agentPart = s.agentPart := by
  simp [State.agentPart, State.schedulePart]
@[simp] theorem solveEvent_agentPart : (solveEvent s).agentPart = s.agentPart := by
  simp [State.agentPart, State.schedulePart]
@[simp] theorem publishEvent_agentPart : (publishEvent s).agentPart = s.agentPart := by
  simp [State.agentPart, State.schedulePart]

@[simp] theorem finish_agentPart : (finish s).agentPart = s.agentPart := by
  obtain ⟨_, h⟩ | ⟨_, h⟩ := finish_cases s <;> rw [h] <;> rfl

@[simp] theorem requestTeardown_agentPart : (requestTeardown s).agentPart = s.agentPart := by
  obtain ⟨_, h⟩ | ⟨_, h⟩ := requestTeardown_cases s <;> rw [h] <;> rfl

@[simp] theorem overrunCheck_agentPart : (overrunCheck s).agentPart = s.agentPart := by
  obtain ⟨_, h⟩ | ⟨_, h⟩ := overrunCheck_cases s
  · rw [h]; rfl
  · rw [h]

@[simp] theorem accept_agentPart (i : Instr) (st : Stage) : (accept i st s).agentPart = s.agentPart := by
  obtain ⟨_, h⟩ | ⟨_, _, h⟩ | ⟨_, _, _, h⟩ | ⟨_, _, _, h⟩ := accept_cases i st s <;> simp [h]

theorem singleStage_agentPart (i : Instr) (st : Stage) {event : State → State}
    (h : ∀ s, (event s).agentPart = s.agentPart) : (singleStage i st event s).agentPart = s.agentPart := by
  obtain ⟨_, hs⟩ | ⟨_, hs⟩ := singleStage_cases i st event s
  · simp [hs, h]
  · simp [hs]

@[simp] theorem busRead_agentPart (a : Addr) (size : Nat) : (busRead a size s).agentPart = s.agentPart := by
  obtain ⟨_, _, _, h⟩ | ⟨_, h⟩ := busRead_cases a size s <;> rw [h] <;> rfl

@[simp] theorem writeElem_agentPart (a : Addr) (g : Region) (v : Word) : (writeElem a g v s).agentPart = s.agentPart := by
  unfold writeElem
  split <;> rfl

@[simp] theorem writeReg_agentPart (a : Addr) (r : Reg) (v : Word) : (writeReg a r v s).agentPart = s.agentPart := by
  cases r with
  | cfg c => simp only [writeReg, writeCfg]; split <;> rfl
  | _ => rfl

end Operations

section Commands
variable {s t : State}

theorem execPush_agentPart {ch : BitVec 8} (h : execPush ch s = .next t) : t.agentPart = s.agentPart := by
  obtain ⟨_, e⟩ | ⟨_, _, e⟩ | ⟨_, _, _, e⟩ | ⟨_, _, _, e⟩ := execPush_cases ch s <;> rw [e] at h <;> cases h <;> simp

theorem execNop_agentPart (h : execNop s = .next t) : t.agentPart = s.agentPart := by
  unfold execNop at h
  split at h
  · cases h; simp
  · split at h <;> cases h <;> simp

theorem execSnapshot_agentPart (h : execSnapshot s = .next t) : t.agentPart = s.agentPart := by
  unfold execSnapshot at h
  split at h
  · split at h
    · cases h; rfl
    · split at h <;> cases h <;> simp
  · cases h; simp

theorem stepStage_agentPart (h : stepStage s = .next t) : t.agentPart = s.agentPart := by
  obtain ⟨_, e⟩ | ⟨_, _, e⟩ | ⟨_, _, _, e⟩ | ⟨_, _, _, e⟩ | ⟨_, e⟩ | ⟨_, e⟩ | ⟨_, e⟩ | ⟨_, e⟩ | ⟨_, e⟩ | ⟨_, e⟩ | ⟨_, e⟩ |
    ⟨_, e⟩ := stepStage_cases s <;> rw [e] at h <;> cases h <;> simp

theorem execStep_agentPart (h : execStep s = .next t) : t.agentPart = s.agentPart := by
  unfold execStep at h
  split at h
  · exact stepStage_agentPart h
  · cases h; simp

theorem execStart_agentPart (h : execStart s = .next t) : t.agentPart = s.agentPart := by
  obtain ⟨_, e⟩ | ⟨_, _, _, e⟩ | ⟨_, _, e⟩ := execStart_cases s <;> rw [e] at h <;> cases h
  · simp
  · simp
  · unfold startInit; rfl

theorem execStop_agentPart (h : execStop s = .next t) : t.agentPart = s.agentPart := by
  unfold execStop at h
  split at h <;> cases h <;> simp

theorem execClrfault_agentPart (h : execClrfault s = .next t) : t.agentPart = s.agentPart := by
  unfold execClrfault at h
  split at h <;> cases h <;> simp

theorem execSrst_agentPart {key : BitVec 8} (h : execSrst key s = .next t) : t.agentPart = s.agentPart := by
  unfold execSrst at h
  split at h <;> cases h <;> simp

/-- No command writes the schedule, the turn or a program: they are the launch's, not the block's (log 25). -/
theorem exec_agentPart {i : Instr} (h : exec i s = .next t) : t.agentPart = s.agentPart := by
  cases i with
  | push ch => exact execPush_agentPart h
  | nop => exact execNop_agentPart h
  | snapshot => exact execSnapshot_agentPart h
  | transient => cases h; exact singleStage_agentPart _ _ _ transientEvent_agentPart
  | window => cases h; exact singleStage_agentPart _ _ _ windowEvent_agentPart
  | zeropad => cases h; exact singleStage_agentPart _ _ _ zeropadEvent_agentPart
  | fft => cases h; exact singleStage_agentPart _ _ _ fftEvent_agentPart
  | mag => cases h; exact singleStage_agentPart _ _ _ magEvent_agentPart
  | whiten => cases h; exact singleStage_agentPart _ _ _ whitenEvent_agentPart
  | solve => cases h; exact singleStage_agentPart _ _ _ solveEvent_agentPart
  | publish => cases h; exact singleStage_agentPart _ _ _ publishEvent_agentPart
  | step => exact execStep_agentPart h
  | start => exact execStart_agentPart h
  | stop => exact execStop_agentPart h
  | clrfault => exact execClrfault_agentPart h
  | srst key => exact execSrst_agentPart h

theorem submit_agentPart {p : Port} {w : Word} (h : submit p w s = .next t) : t.agentPart = s.agentPart := by
  obtain ⟨i, _, e⟩ | ⟨_, _, e⟩ := submit_cases p w s <;> rw [e] at h
  · exact exec_agentPart h
  · cases h; simp

theorem busWrite_agentPart {a : Addr} {size : Nat} {v : Word} (h : busWrite a size v s = .next t) :
    t.agentPart = s.agentPart := by
  obtain ⟨_, e⟩ | ⟨p, _, _, e⟩ | ⟨r, _, _, _, e⟩ | ⟨g, _, _, e⟩ | ⟨_, _, e⟩ := busWrite_cases a size v s <;> rw [e] at h
  · cases h; simp
  · simpa using submit_agentPart h
  · cases h; simp
  · cases h; simp
  · cases h; simp

theorem performOp_schedulePart {who : Agent} {op : AgentOp} {rest : List AgentOp} (h : performOp who op rest s = .next t) :
    t.schedulePart = s.schedulePart := by
  obtain ⟨a, size, v, _, e⟩ | ⟨a, size, _, e⟩ | ⟨a, mask, val, _, e⟩ := performOp_cases who op rest s <;> rw [e] at h
  · rw [markRole_eq] at h
    exact (schedulePart_of_agentPart (busWrite_agentPart h)).trans (setProg_schedulePart s who rest)
  · cases h
    exact (schedulePart_of_agentPart (busRead_agentPart ..)).trans (setProg_schedulePart s who rest)
  · cases h
    have hr := schedulePart_of_agentPart (busRead_agentPart s a 4)
    split <;> simp [hr]

theorem sequencerEvent_agentPart (h : sequencerEvent s = .next t) : t.agentPart = s.agentPart := by
  obtain ⟨_, e⟩ | ⟨i, _, _, _, e⟩ | ⟨_, e⟩ := sequencerEvent_cases s <;> rw [e] at h
  · cases h; simp [autoStart]
  · exact exec_agentPart h
  · cases h

/-- An event uses up nothing of the schedule: only the choice of the agent does. -/
theorem agentEvent_schedulePart {who : Agent} (h : agentEvent who s = .next t) : t.schedulePart = s.schedulePart := by
  unfold agentEvent at h
  split at h
  · exact schedulePart_of_agentPart (sequencerEvent_agentPart h)
  all_goals
    split at h
    · cases h; rfl
    · exact performOp_schedulePart h

end Commands

/-! ### Where the ports are, and whose they are -/

/-- Each port stands in the register map at its own address (R69). -/
theorem locate_port (l : Latched) (p : Port) : locate l (BitVec.ofNat 18 p.addr : Addr).toNat = .reg (.port p) := by
  have hr : regAt (BitVec.ofNat 18 p.addr : Addr).toNat = some (.port p) := by cases p <;> decide
  rw [locate, hr]

theorem wellFormedAccess_port (p : Port) : wellFormedAccess (BitVec.ofNat 18 p.addr) 4 = true := by cases p <;> decide

/-- A word written to a port's address is submitted there, with the bus answered. -/
theorem busWrite_port (p : Port) (w : Word) (s : State) :
    busWrite (BitVec.ofNat 18 p.addr) 4 w s = submit p w (answer 0 s) := by
  rw [busWrite, if_pos (wellFormedAccess_port p), locate_port]

/-- The register at an address stands there in the map. -/
theorem mem_regMap_of_regAt {a : Nat} {r : Reg} (h : regAt a = some r) : (a, r) ∈ regMap := by
  obtain ⟨⟨b, q⟩, hf, rfl⟩ := Option.map_eq_some_iff.mp h
  have hb : b = a := by simpa using List.find?_some hf
  exact hb ▸ List.mem_of_find?_eq_some hf

theorem regAt_eq_pcmd {a : Nat} : regAt a = some (.port .pcmd) ↔ a = 0x014 := by
  refine ⟨fun h => ?_, fun h => by subst h; decide⟩
  have only : ∀ e ∈ regMap, e.2 = .port .pcmd → e.1 = 0x014 := by decide
  exact only _ (mem_regMap_of_regAt h) rfl

theorem regAt_eq_pdata {a : Nat} : regAt a = some .pdata ↔ a = 0x018 := by
  refine ⟨fun h => ?_, fun h => by subst h; decide⟩
  have only : ∀ e ∈ regMap, e.2 = .pdata → e.1 = 0x018 := by decide
  exact only _ (mem_regMap_of_regAt h) rfl

/-- The Producer's ports are PCMD and PDATA (R131). -/
theorem producerPort_iff (a : Addr) : producerPort a = true ↔ a = 0x014 ∨ a = 0x018 := by
  have at_iff (n : Addr) : a.toNat = n.toNat ↔ a = n := BitVec.toNat_inj
  simp only [producerPort, Bool.or_eq_true, beq_iff_eq, regAt_eq_pcmd, regAt_eq_pdata]
  exact or_congr (at_iff 0x014) (at_iff 0x018)

/-- A word written to one of the Producer's ports by another agent (R131). -/
theorem outsideRole_iff (who : Agent) (a : Addr) (size : Nat) :
    outsideRole who a size = true ↔ who ≠ .producer ∧ size = 4 ∧ (a = 0x014 ∨ a = 0x018) := by
  have aligned : a = 0x014 ∨ a = 0x018 → a.toNat % 4 = 0 := by rintro (rfl | rfl) <;> rfl
  simp only [outsideRole, wellFormedAccess, Bool.and_eq_true, bne_iff_ne, beq_iff_eq, producerPort_iff]
  tauto

/-- Of the three ports only PCMD is the Producer's. -/
theorem outsideRole_port (who : Agent) (p : Port) :
    outsideRole who (BitVec.ofNat 18 p.addr) 4 = decide (p = .pcmd ∧ who ≠ .producer) := by
  rw [Bool.eq_iff_iff, outsideRole_iff, decide_eq_true_eq]
  cases p <;> simp [Port.addr]

/-! ### A step of a chosen agent -/

/-- In a run that is not stuck a step is the chosen agent's event. -/
theorem step_of_choice {s u : State} {who : Agent} (hc : chooseAgent s = some (who, u)) (hs : s.stalled = false) :
    step s = agentEvent who { u with turn := who } := by
  simp [step, hs, hc]

/-- A choice uses up no program. -/
theorem prog_of_choice {s u : State} {who : Agent} (hc : chooseAgent s = some (who, u)) (a : Agent) :
    ({ u with turn := who } : State).prog a = s.prog a := by
  obtain ⟨_, _, _, _, rfl⟩ := chooseAgent_some hc
  cases a <;> rfl

/-- An agent's event is the next operation of its program. -/
theorem agentEvent_of_prog {s : State} {who : Agent} {op : AgentOp} {rest : List AgentOp} (h : s.prog who = op :: rest) :
    agentEvent who s = performOp who op rest s := by
  cases who with
  | sequencer => cases h
  | _ => simp only [agentEvent, h]

/-- In a run that is not stuck a step performs the next operation of the chosen agent's program. -/
theorem step_performs {s u : State} {who : Agent} {op : AgentOp} {rest : List AgentOp}
    (hc : chooseAgent s = some (who, u)) (hp : s.prog who = op :: rest) (hs : s.stalled = false) :
    step s = performOp who op rest { u with turn := who } := by
  rw [step_of_choice hc hs, agentEvent_of_prog ((prog_of_choice hc who).trans hp)]

/-- A step of a write is the bus write, its sender marked where the port is not its own (log 7). -/
theorem step_write {s u : State} {who : Agent} {a : Addr} {size : Nat} {w : Word} {rest : List AgentOp}
    (hc : chooseAgent s = some (who, u)) (hp : s.prog who = .write a size w :: rest) :
    step s = busWrite a size w { ({ u with turn := who } : State).setProg who rest with
      refusedMark := s.refusedMark || outsideRole who a size } := by
  rw [step_performs hc hp (not_stalled_of_head hp (by simp)), performOp, markRole_eq]
  obtain ⟨_, _, _, _, rfl⟩ := chooseAgent_some hc
  cases who <;> rfl

/-- A step of the busy sequencer is the command in curcmd (R119). -/
theorem step_sequencer {s u : State} {i : Instr} (hc : chooseAgent s = some (.sequencer, u)) (hb : s.cbusy = true)
    (hd : decode .ccmd s.curcmd = .ok i) (hi : i ≠ .nop) : step s = exec i { u with turn := .sequencer } := by
  obtain ⟨he, _, _, _, rfl⟩ := chooseAgent_some hc
  simp [step_of_choice hc (not_stalled_of_ready he), agentEvent, sequencerEvent, hb, hd, hi]

/-- Settles O5: an agent's word is submitted at its port, and the sequencer runs curcmd. -/
theorem stepRunsTheDecodedCommand : Obligations.StepRunsTheDecodedCommand := by
  refine ⟨fun s u who p w i rest hc _ hp hd => ?_, fun s u i hc hb hd hi => step_sequencer hc hb hd hi⟩
  rw [step_write hc hp, busWrite_port, submit, hd, outsideRole_port]
  rfl

/-- Settles O57: one case for each operation of a program. -/
theorem agentsPerformTheirPrograms : Obligations.AgentsPerformTheirPrograms := by
  intro s u who op rest hc hp
  refine ⟨?read, ?poll, ?write⟩
  case read =>
    rintro a size rfl
    exact step_performs hc hp (not_stalled_of_head hp (by simp))
  case poll =>
    rintro a mask val rfl hs
    rw [step_performs hc hp hs, performOp]
    exact ⟨fun h => by simp [h], fun h => by simp [h]⟩
  case write =>
    rintro a size w rfl
    have hm : outsideRole who a size = decide (who ≠ .producer ∧ size = 4 ∧ (a = 0x014 ∨ a = 0x018)) := by
      rw [Bool.eq_iff_iff, outsideRole_iff, decide_eq_true_eq]
    rw [step_write hc hp, hm]

/-! ### The sequencer's fairness -/

/-- How many events may still pass the enabled sequencer over: what is laid down of the schedule, and what is left of the
wait (R17, log 2). -/
def State.passesLeft (s : State) : Nat := s.sched.length + (s.waitFrom + Config.patience s.waitFrom - s.turns)

theorem passesLeft_of_schedulePart {s t : State} (h : t.schedulePart = s.schedulePart) : t.passesLeft = s.passesLeft := by
  simp only [State.schedulePart, Prod.mk.injEq] at h
  obtain ⟨hturns, hwait, hsched⟩ := h
  rw [State.passesLeft, State.passesLeft, hturns, hwait, hsched]

/-- A choice that passes an enabled sequencer over leaves fewer of them. -/
theorem passesLeft_choice {s t : State} {who : Agent} (hc : chooseAgent s = some (who, t))
    (he : s.enabled .sequencer = true) (hw : who ≠ .sequencer) : t.passesLeft < s.passesLeft := by
  obtain ⟨hwait, ⟨hsched, hturns⟩ | ⟨hsched, hturns, hdue⟩⟩ := chooseAgent_passing hc he hw
  · simp only [State.passesLeft, hwait, hturns]; omega
  · simp only [State.passesLeft, hwait, hturns, hsched, List.length_nil]; omega

/-- So does the whole step, since an event leaves the schedule alone. -/
theorem passesLeft_step {s t : State} (h : StepsTo s t) (he : s.enabled .sequencer = true) (hm : ¬ s.sequencerMoves) :
    t.passesLeft < s.passesLeft := by
  obtain ⟨_, who, u, hc, hev⟩ := step_cases h
  have hw : who ≠ .sequencer := by rintro rfl; exact hm ⟨u, hc⟩
  have hs := agentEvent_schedulePart hev
  calc t.passesLeft = ({ u with turn := who } : State).passesLeft := passesLeft_of_schedulePart hs
    _ = u.passesLeft := rfl
    _ < s.passesLeft := passesLeft_choice hc he hw

/-- Every event of a run that passes the sequencer over uses up one of the passes. -/
theorem passedOver_passesLeft {n : Nat} {s t : State} (h : PassedOver n s t) : n + t.passesLeft ≤ s.passesLeft := by
  induction h with
  | refl s => omega
  | tail _ he hm hst ih => have := passesLeft_step hst he hm; omega

/-- A stretch of an endless run in which the sequencer is enabled and never moves. -/
theorem passedOver_stretch {run : Nat → State} (hrun : ∀ n, StepsTo (run n) (run (n + 1))) {m : Nat}
    (hpass : ∀ n, m ≤ n → (run n).enabled .sequencer = true ∧ ¬ (run n).sequencerMoves) (k : Nat) :
    PassedOver k (run m) (run (m + k)) := by
  induction k with
  | zero => exact .refl _
  | succ k ih =>
    obtain ⟨he, hm⟩ := hpass (m + k) (by omega)
    exact .tail ih he hm (hrun _)

/-- Settles O58: the passes left bound every run that passes the sequencer over, so no endless run does from some point
on. -/
theorem sequencerIsServedFairly : Obligations.SequencerIsServedFairly := by
  refine ⟨fun s who rest he => chooseAgent_head rfl ?_, fun n s t h => ?_, fun run hrun m => ?_⟩
  · cases who <;> exact he
  · have := passedOver_passesLeft h
    unfold State.passesLeft at this
    omega
  · by_contra hn
    have hpass : ∀ n, m ≤ n → (run n).enabled .sequencer = true ∧ ¬ (run n).sequencerMoves := by
      intro n hmn
      refine ⟨?_, fun h => hn ⟨n, hmn, .inl h⟩⟩
      by_contra h
      exact hn ⟨n, hmn, .inr (by simpa using h)⟩
    have := passedOver_passesLeft (passedOver_stretch hrun hpass ((run m).passesLeft + 1))
    omega

end Sys2Proof.Machine
end

section
/-! SUPPORT. The binary32 operations as real arithmetic rounded once (R15): patterns and their signs, the ladder of
magnitudes, rounding to the nearest step of the ladder, and each operation on finite and on special operands. -/

namespace Sys2Proof.Machine

/-! ### A pattern is its sign and its magnitude bits -/

theorem fsign_eq_decide (a : Word) : fsign a = decide (2 ^ 31 ≤ a.toNat) := by
  have ha := a.isLt
  rw [fsign, BitVec.getLsbD, Nat.testBit_eq_decide_div_mod_eq, decide_eq_decide]
  omega

theorem fpack_fsign_fbits (a : Word) : fpack (fsign a) (fbits a) = a := by
  have ha := a.isLt
  apply BitVec.eq_of_toNat_eq
  rw [fpack, BitVec.toNat_ofNat, fsign_eq_decide, fbits]
  by_cases h : 2 ^ 31 ≤ a.toNat
  · simp only [h, decide_true, if_true]; omega
  · simp only [h, decide_false, Bool.false_eq_true, if_false]; omega

theorem fsign_fpack {neg : Bool} {n : Nat} (h : n < 2 ^ 31) : fsign (fpack neg n) = neg := by
  rw [fsign_eq_decide, fpack, BitVec.toNat_ofNat]
  cases neg
  · simp only [Bool.false_eq_true, if_false, decide_eq_false_iff_not]; omega
  · simp only [if_true, decide_eq_true_eq]; omega

/-- Two patterns with the same sign and the same magnitude bits are one. -/
theorem eq_of_fsign_of_fbits {a b : Word} (hs : fsign a = fsign b) (hb : fbits a = fbits b) : a = b := by
  rw [← fpack_fsign_fbits a, hs, hb, fpack_fsign_fbits]

@[simp] theorem fsign_fneg (a : Word) : fsign (fneg a) = !fsign a := by simp [fsign, fneg]

@[simp] theorem fbits_fneg (a : Word) : fbits (fneg a) = fbits a := by
  rw [fbits, fbits, fneg, BitVec.toNat_xor, Nat.xor_mod_two_pow]
  exact Nat.xor_zero _

@[simp] theorem isNaN_fneg (a : Word) : isNaN (fneg a) = isNaN a := by simp [isNaN]

@[simp] theorem isFinite_fneg (a : Word) : isFinite (fneg a) = isFinite a := by simp [isFinite]

theorem fneg_fneg (a : Word) : fneg (fneg a) = a := eq_of_fsign_of_fbits (by simp) (by simp)

theorem fneg_fpack {neg : Bool} {n : Nat} (h : n < 2 ^ 31) : fneg (fpack neg n) = fpack (!neg) n :=
  eq_of_fsign_of_fbits (by simp [fsign_fpack h]) (by simp [fbits_fpack h])

theorem infBits_lt : infBits < 2 ^ 31 := by decide

theorem fsign_rne32 (neg : Bool) (num den : Nat) : fsign (rne32 neg num den) = neg :=
  fsign_fpack ((roundBits_le num den).trans_lt infBits_lt)

theorem rne32_true (num den : Nat) : rne32 true num den = fneg (rne32 false num den) :=
  (fneg_fpack (neg := false) ((roundBits_le num den).trans_lt infBits_lt)).symm

theorem isNaN_of_isFinite {a : Word} (h : isFinite a = true) : isNaN a = false := by
  simp only [isFinite, isNaN, decide_eq_true_eq, decide_eq_false_iff_not] at *; omega

theorem isInf_of_isFinite {a : Word} (h : isFinite a = true) : isInf a = false := by
  simp only [isFinite, isInf, decide_eq_true_eq, beq_eq_false_iff_ne] at *; omega

theorem isNaN_of_isInf {a : Word} (h : isInf a = true) : isNaN a = false := by
  simp only [isInf, isNaN, beq_iff_eq, decide_eq_false_iff_not] at *; omega

theorem isFinite_of_isZero {a : Word} (h : isZero a = true) : isFinite a = true := by
  simp only [isZero, isFinite, beq_iff_eq, decide_eq_true_eq] at *; rw [h]; decide

/-! ### The ladder of magnitudes -/

/-- A significand of at most 24 bits over the exponent `t` (subnormal where `t` is 0). -/
theorem unitsOfBits_fields {t q : Nat} (ht : t = 0 ∨ 2 ^ 23 ≤ q) (hq : q ≤ 2 ^ 24) :
    unitsOfBits (t * 2 ^ 23 + q) = q * 2 ^ t := by
  unfold unitsOfBits
  by_cases hlow : q < 2 ^ 23
  · obtain rfl : t = 0 := by omega
    rw [if_pos (by omega)]; omega
  · by_cases htop : q = 2 ^ 24
    · rw [if_neg (by omega), show (t * 2 ^ 23 + q) / 2 ^ 23 - 1 = t + 1 by omega,
        show (t * 2 ^ 23 + q) % 2 ^ 23 = 0 by omega, htop, Nat.pow_succ 2 t]
      ring
    · rw [if_neg (by omega), show (t * 2 ^ 23 + q) / 2 ^ 23 - 1 = t by omega,
        show 2 ^ 23 + (t * 2 ^ 23 + q) % 2 ^ 23 = q by omega]

theorem exists_fields (n : Nat) : ∃ t q, n = t * 2 ^ 23 + q ∧ (t = 0 ∨ 2 ^ 23 ≤ q) ∧ q < 2 ^ 24 := by
  by_cases h : n < 2 ^ 23
  · exact ⟨0, n, by omega, .inl rfl, by omega⟩
  · exact ⟨n / 2 ^ 23 - 1, 2 ^ 23 + n % 2 ^ 23, by omega, .inr (by omega), by omega⟩

theorem unitsOfBits_strictMono : StrictMono unitsOfBits := by
  refine strictMono_nat_of_lt_succ fun n => ?_
  obtain ⟨t, q, rfl, ht, hq⟩ := exists_fields n
  rw [unitsOfBits_fields ht hq.le, Nat.add_assoc, unitsOfBits_fields (by omega) hq]
  exact Nat.mul_lt_mul_of_pos_right q.lt_succ_self (by positivity)

@[simp] theorem unitsOfBits_zero : unitsOfBits 0 = 0 := by decide

/-- The step above a magnitude is at least one unit of its last place. -/
theorem unitsOfBits_above {t q k : Nat} (ht : t = 0 ∨ 2 ^ 23 ≤ q) (hq : q ≤ 2 ^ 24) (hk : t * 2 ^ 23 + q < k) :
    (q + 1) * 2 ^ t ≤ unitsOfBits k := by
  have hmono : unitsOfBits (t * 2 ^ 23 + q + 1) ≤ unitsOfBits k := unitsOfBits_strictMono.monotone hk
  refine le_trans ?_ hmono
  by_cases htop : q = 2 ^ 24
  · rw [show t * 2 ^ 23 + q + 1 = (t + 1) * 2 ^ 23 + (2 ^ 23 + 1) by omega,
      unitsOfBits_fields (by omega) (by norm_num), Nat.pow_succ 2 t, htop]
    omega
  · rw [Nat.add_assoc, unitsOfBits_fields (by omega) (by omega)]

/-- The step below a magnitude is one unit of its last place, but below a power of two. -/
theorem unitsOfBits_below {t q k : Nat} (ht : t = 0 ∨ 2 ^ 23 < q) (hq : q ≤ 2 ^ 24) (hk : k < t * 2 ^ 23 + q) :
    unitsOfBits k + 2 ^ t ≤ q * 2 ^ t := by
  have hmono := unitsOfBits_strictMono.monotone (show k ≤ t * 2 ^ 23 + (q - 1) by omega)
  rw [unitsOfBits_fields (by omega) (by omega)] at hmono
  calc unitsOfBits k + 2 ^ t ≤ (q - 1) * 2 ^ t + 2 ^ t := Nat.add_le_add_right hmono _
    _ = (q - 1 + 1) * 2 ^ t := by rw [Nat.add_mul, Nat.one_mul]
    _ = q * 2 ^ t := by rw [Nat.sub_add_cancel (by omega)]

/-! ### Rounding to the nearest -/

/-- `q` is a whole number nearest to `x`, the even one of two. -/
structure IsNearestEven (x : ℝ) (q : Nat) : Prop where
  low : (q : ℝ) - 1 / 2 ≤ x
  high : x ≤ q + 1 / 2
  even : x = q - 1 / 2 ∨ x = q + 1 / 2 → q % 2 = 0

/-- `roundDiv` on whole numbers: at most half a divisor off, and even where it is exactly half. -/
theorem roundDiv_spec (n d : Nat) :
    2 * (d * roundDiv n d) ≤ 2 * n + d ∧ (2 * (d * roundDiv n d) = 2 * n + d → roundDiv n d % 2 = 0) ∧
      (0 < d → 2 * n ≤ 2 * (d * roundDiv n d) + d ∧ (2 * n = 2 * (d * roundDiv n d) + d → roundDiv n d % 2 = 0)) := by
  have hn := Nat.div_add_mod n d
  have hr : 0 < d → n % d < d := Nat.mod_lt n
  unfold roundDiv
  split
  · rw [Nat.mul_add, Nat.mul_one]; omega
  · omega

theorem roundDiv_isNearestEven (n : Nat) {d : Nat} (hd : 0 < d) : IsNearestEven ((n : ℝ) / d) (roundDiv n d) := by
  obtain ⟨hlow, hlowEven, hhigh⟩ := roundDiv_spec n d
  obtain ⟨hhigh, hhighEven⟩ := hhigh hd
  generalize roundDiv n d = q at *
  have hdR : (0 : ℝ) < d := by exact_mod_cast hd
  have scale (y : ℝ) : (n : ℝ) / d = y ↔ (2 : ℝ) * n = 2 * (d * y) := by
    rw [div_eq_iff hdR.ne']; constructor <;> intro h <;> linarith
  refine ⟨?_, ?_, ?_⟩
  · have : (2 : ℝ) * (d * q) ≤ 2 * n + d := by exact_mod_cast hlow
    rw [le_div_iff₀ hdR]; linarith
  · have : (2 : ℝ) * n ≤ 2 * (d * q) + d := by exact_mod_cast hhigh
    rw [div_le_iff₀ hdR]; linarith
  · rintro (h | h) <;> rw [scale] at h
    · refine hlowEven ?_
      have : (2 : ℝ) * (d * q) = 2 * n + d := by linarith
      exact_mod_cast this
    · refine hhighEven ?_
      have : (2 : ℝ) * n = 2 * (d * q) + d := by linarith
      exact_mod_cast this

/-- The point halfway between two steps of the ladder. -/
noncomputable def halfway (k n : Nat) : ℝ := ((unitsOfBits k : ℝ) + unitsOfBits n) / 2

/-- Step `n` of the ladder, taken as endless, is nearest to `x` units; of two nearest steps it is the even one. -/
structure IsNearestStep (x : ℝ) (n : Nat) : Prop where
  below : ∀ k, k < n → halfway k n ≤ x
  above : ∀ k, n < k → x ≤ halfway k n
  even : ∀ k, k ≠ n → x = halfway k n → n % 2 = 0

/-- Nearness is a matter of comparisons with multiples of one half. -/
theorem IsNearestStep.congr {x y : ℝ} {n : Nat} (h : IsNearestStep x n)
    (hle : ∀ k : Nat, (k : ℝ) / 2 ≤ x ↔ (k : ℝ) / 2 ≤ y) (hge : ∀ k : Nat, x ≤ (k : ℝ) / 2 ↔ y ≤ (k : ℝ) / 2) :
    IsNearestStep y n := by
  have half (k : Nat) : halfway k n = ((unitsOfBits k + unitsOfBits n : Nat) : ℝ) / 2 := by rw [halfway, Nat.cast_add]
  refine ⟨fun k hk => ?_, fun k hk => ?_, fun k hk he => ?_⟩
  · rw [half, ← hle, ← half]; exact h.below k hk
  · rw [half, ← hge, ← half]; exact h.above k hk
  · refine h.even k hk (le_antisymm ?_ ?_)
    · rw [half, hge, ← half, he]
    · rw [half, hle, ← half, he]

theorem unitsOfBits_fields_real {t q : Nat} (ht : t = 0 ∨ 2 ^ 23 ≤ q) (hq : q ≤ 2 ^ 24) :
    (unitsOfBits (t * 2 ^ 23 + q) : ℝ) = q * 2 ^ t := by exact_mod_cast unitsOfBits_fields ht hq

theorem halfway_above {t q k : Nat} (ht : t = 0 ∨ 2 ^ 23 ≤ q) (hq : q ≤ 2 ^ 24) (hk : t * 2 ^ 23 + q < k) :
    ((q : ℝ) + 1 / 2) * 2 ^ t ≤ halfway k (t * 2 ^ 23 + q) := by
  have hgap : ((q : ℝ) + 1) * 2 ^ t ≤ unitsOfBits k := by exact_mod_cast unitsOfBits_above ht hq hk
  rw [halfway, unitsOfBits_fields_real ht hq]
  linarith

/-- Below a power of two the ladder is finer; there the point halfway is only known to be less than the step. -/
theorem halfway_below {t q k : Nat} (ht : t = 0 ∨ 2 ^ 23 ≤ q) (hq : q ≤ 2 ^ 24) (hk : k < t * 2 ^ 23 + q) :
    halfway k (t * 2 ^ 23 + q) ≤ ((q : ℝ) - 1 / 2) * 2 ^ t ∨
      (t ≠ 0 ∧ q = 2 ^ 23 ∧ halfway k (t * 2 ^ 23 + q) < q * 2 ^ t) := by
  by_cases hbelow : t = 0 ∨ 2 ^ 23 < q
  · have hgap : (unitsOfBits k : ℝ) + 2 ^ t ≤ q * 2 ^ t := by exact_mod_cast unitsOfBits_below hbelow hq hk
    rw [halfway, unitsOfBits_fields_real ht hq]
    exact .inl (by linarith)
  · have hlt : (unitsOfBits k : ℝ) < q * 2 ^ t := by
      rw [← unitsOfBits_fields_real ht hq]; exact_mod_cast unitsOfBits_strictMono hk
    rw [halfway, unitsOfBits_fields_real ht hq]
    exact .inr ⟨by omega, by omega, by linarith⟩

/-- Rounding to a whole number of units in the last place of the binade of `x` gives the nearest step. -/
theorem isNearestStep_of_fields {x : ℝ} {t q : Nat} (h : IsNearestEven (x / 2 ^ t) q)
    (hlow : t = 0 ∨ (2 : ℝ) ^ 23 ≤ x / 2 ^ t) (hhigh : x / 2 ^ t < 2 ^ 24) : IsNearestStep x (t * 2 ^ 23 + q) := by
  have hp : (0 : ℝ) < 2 ^ t := by positivity
  have hq : q ≤ 2 ^ 24 := by
    have : (q : ℝ) < ((2 ^ 24 + 1 : Nat) : ℝ) := by push_cast; linarith [h.low]
    exact Nat.lt_succ_iff.mp (by exact_mod_cast this)
  have ht : t = 0 ∨ 2 ^ 23 ≤ q := by
    refine hlow.imp_right fun hlow => ?_
    have : ((2 ^ 23 : Nat) : ℝ) < ((q + 1 : Nat) : ℝ) := by push_cast; linarith [h.high]
    exact Nat.lt_succ_iff.mp (by exact_mod_cast this)
  have hxlow : ((q : ℝ) - 1 / 2) * 2 ^ t ≤ x := (le_div_iff₀ hp).mp h.low
  have hxhigh : x ≤ ((q : ℝ) + 1 / 2) * 2 ^ t := (div_le_iff₀ hp).mp h.high
  have hbinade (h0 : t ≠ 0) (hq : q = 2 ^ 23) : (q : ℝ) * 2 ^ t ≤ x := by
    rw [hq]; exact_mod_cast (le_div_iff₀ hp).mp (hlow.resolve_left h0)
  refine ⟨fun k hk => ?below, fun k hk => hxhigh.trans (halfway_above ht hq hk), fun k hk he => ?even⟩
  case below =>
    obtain hb | ⟨h0, hq23, hb⟩ := halfway_below ht hq hk
    · exact hb.trans hxlow
    · exact hb.le.trans (hbinade h0 hq23)
  case even =>
    have hqe : q % 2 = 0 := by
      refine h.even ?_
      rw [div_eq_iff hp.ne', div_eq_iff hp.ne']
      obtain hk | hk := hk.lt_or_gt
      · obtain hb | ⟨h0, hq23, hb⟩ := halfway_below ht hq hk
        · exact .inl (le_antisymm (he.le.trans hb) hxlow)
        · exact absurd (hbinade h0 hq23) (by rw [he]; exact not_le.mpr hb)
      · exact .inr (le_antisymm hxhigh ((halfway_above ht hq hk).trans he.ge))
    omega

/-- `roundBits` is the nearest step of the ladder, cut at infinity. -/
theorem exists_roundBits_eq (num : Nat) {den : Nat} (hd : 0 < den) :
    ∃ n, roundBits num den = min n infBits ∧ IsNearestStep ((num : ℝ) * 2 ^ 149 / den) n := by
  have hdR : (0 : ℝ) < den := by exact_mod_cast hd
  refine ⟨_, rfl, ?_⟩
  generalize ht : Nat.log2 (num * 2 ^ 149 / den) - 23 = t
  have hp : (0 : ℝ) < 2 ^ t := by positivity
  have hx : (num : ℝ) * 2 ^ 149 / den / 2 ^ t = ((num * 2 ^ 149 : Nat) : ℝ) / ((den * 2 ^ t : Nat) : ℝ) := by
    rw [div_div]; push_cast; norm_num
  refine isNearestStep_of_fields (hx ▸ roundDiv_isNearestEven _ (by positivity)) ?_ ?_
  · by_cases h0 : t = 0
    · exact .inl h0
    · right
      have hne : num * 2 ^ 149 / den ≠ 0 := by rintro h; rw [h] at ht; exact h0 (ht ▸ rfl)
      have hfloor : 2 ^ (23 + t) ≤ num * 2 ^ 149 / den :=
        (Nat.pow_le_pow_right (by norm_num) (by omega)).trans (Nat.log2_self_le hne)
      have hmul : 2 ^ 23 * (den * 2 ^ t) ≤ num * 2 ^ 149 := by
        calc 2 ^ 23 * (den * 2 ^ t) = 2 ^ (23 + t) * den := by rw [Nat.pow_add]; ring
          _ ≤ num * 2 ^ 149 := (Nat.le_div_iff_mul_le hd).mp hfloor
      rw [hx, le_div_iff₀ (by positivity)]
      exact_mod_cast hmul
  · have hfloor : num * 2 ^ 149 / den < 2 ^ (24 + t) :=
      Nat.lt_log2_self.trans_le (Nat.pow_le_pow_right (by norm_num) (by omega))
    have hmul : num * 2 ^ 149 < 2 ^ 24 * (den * 2 ^ t) := by
      calc num * 2 ^ 149 < 2 ^ (24 + t) * den := (Nat.div_lt_iff_lt_mul hd).mp hfloor
        _ = 2 ^ 24 * (den * 2 ^ t) := by rw [Nat.pow_add]; ring
    rw [hx, div_lt_iff₀ (by positivity)]
    exact_mod_cast hmul

/-! ### The rounded result is RNE32 of the real one -/

theorem fmag_eq_zero_iff (a : Word) : fmag a = 0 ↔ isZero a = true := by
  rw [isZero, beq_iff_eq]
  exact unitsOfBits_strictMono.injective.eq_iff' unitsOfBits_zero

/-- The sign a sign bit stands for. -/
def signOf (neg : Bool) : Int := if neg then -1 else 1

@[simp] theorem signOf_xor (p q : Bool) : signOf (p ^^ q) = signOf p * signOf q := by cases p <;> cases q <;> rfl

theorem signOf_mul_natAbs (v : Int) : signOf (decide (v < 0)) * v.natAbs = v := by
  by_cases hv : v < 0
  · simp [signOf, hv, abs_of_neg]
  · simp [signOf, hv, abs_of_nonneg (not_lt.mp hv)]

theorem fval_eq (a : Word) : fval a = signOf (fsign a) * fmag a := by
  unfold fval signOf; split <;> simp

theorem fval_eq_zero {a : Word} (h : isZero a = true) : fval a = 0 := by simp [fval_eq, (fmag_eq_zero_iff a).mpr h]

@[simp] theorem fval_fneg (a : Word) : fval (fneg a) = -fval a := by
  cases h : fsign a <;> simp [fval_eq, fmag, signOf, h]

theorem fval_fpack {neg : Bool} {n : Nat} (h : n < 2 ^ 31) : fval (fpack neg n) = signOf neg * unitsOfBits n := by
  rw [fval_eq, fsign_fpack h, fmag, fbits_fpack h]

/-- The magnitude from which a result is an infinity: halfway from the largest finite pattern to the step above (R15). -/
theorem halfway_infBits : halfway (infBits - 1) infBits = ((2 : ℝ) ^ 128 - 2 ^ 103) * 2 ^ 149 := by
  have hlast : unitsOfBits (infBits - 1) = (2 ^ 24 - 1) * 2 ^ 253 :=
    unitsOfBits_fields (t := 253) (q := 2 ^ 24 - 1) (by omega) (by omega)
  have hinf : unitsOfBits infBits = 2 ^ 23 * 2 ^ 254 := by
    rw [show infBits = 254 * 2 ^ 23 + 2 ^ 23 by decide, unitsOfBits_fields (by omega) (by omega)]
  rw [halfway, hlast, hinf]
  norm_num

theorem IsNearestStep.lt_infBits_iff {x : ℝ} {n : Nat} (h : IsNearestStep x n) :
    n < infBits ↔ x < ((2 : ℝ) ^ 128 - 2 ^ 103) * 2 ^ 149 := by
  rw [← halfway_infBits]
  have hodd : (infBits - 1) % 2 = 1 := by decide
  have hmono {j k : Nat} (hjk : j ≤ k) : (unitsOfBits j : ℝ) ≤ unitsOfBits k := by
    exact_mod_cast unitsOfBits_strictMono.monotone hjk
  constructor
  · intro hn
    have hx : x ≤ halfway infBits n := h.above infBits hn
    obtain rfl | hlt : n = infBits - 1 ∨ n < infBits - 1 := by omega
    · rw [halfway, add_comm]
      refine lt_of_le_of_ne hx fun he => ?_
      have := h.even infBits hn.ne' he
      omega
    · have : (unitsOfBits n : ℝ) < unitsOfBits (infBits - 1) := by exact_mod_cast unitsOfBits_strictMono hlt
      unfold halfway at *
      linarith
  · intro hx
    by_contra hn
    have hbelow := h.below (infBits - 1) (by unfold infBits at *; omega)
    have := hmono (not_lt.mp hn)
    unfold halfway at *
    linarith

/-- Distances compared through the point halfway. -/
theorem abs_sub_le_of_halfway {m v x : ℝ} (hb : v < m → (v + m) / 2 ≤ x) (ha : m < v → x ≤ (v + m) / 2) :
    |m - x| ≤ |v - x| := by
  obtain h | rfl | h := lt_trichotomy v m
  · have := hb h
    rw [abs_of_nonpos (a := v - x) (by linarith), abs_le]
    constructor <;> linarith
  · exact le_rfl
  · have := ha h
    rw [abs_of_nonneg (a := v - x) (by linarith), abs_le]
    constructor <;> linarith

theorem eq_halfway_of_abs_sub_eq {m v x : ℝ} (hne : v ≠ m) (h : |m - x| = |v - x|) : x = (v + m) / 2 := by
  obtain h | h := abs_eq_abs.mp h
  · exact absurd (by linarith) hne
  · linarith

/-- The nearest step is nearer to `x` than any other magnitude of either sign, or as near and even. -/
theorem IsNearestStep.nearest {x : ℝ} {n : Nat} (h : IsNearestStep x n) (h0 : 0 ≤ x) (neg : Bool) (k : Nat) :
    |(unitsOfBits n : ℝ) - x| ≤ |(signOf neg : ℝ) * unitsOfBits k - x| ∧
      ((signOf neg : ℝ) * unitsOfBits k ≠ unitsOfBits n →
        |(unitsOfBits n : ℝ) - x| = |(signOf neg : ℝ) * unitsOfBits k - x| → n % 2 = 0) := by
  have hlt {j l : Nat} : (unitsOfBits j : ℝ) < unitsOfBits l ↔ j < l := by
    exact_mod_cast unitsOfBits_strictMono.lt_iff_lt
  cases neg with
  | false =>
    simp only [signOf, Bool.false_eq_true, if_false, Int.cast_one, one_mul]
    refine ⟨abs_sub_le_of_halfway (fun hk => h.below k (hlt.mp hk)) (fun hk => h.above k (hlt.mp hk)), fun hne he => ?_⟩
    exact h.even k (fun hk => hne (hk ▸ rfl)) (eq_halfway_of_abs_sub_eq hne he)
  | true =>
    simp only [signOf, if_true, Int.cast_neg, Int.cast_one, neg_one_mul]
    have hk : (0 : ℝ) ≤ unitsOfBits k := by positivity
    have hzero : 0 < n → (unitsOfBits n : ℝ) / 2 ≤ x := by simpa [halfway] using h.below 0
    obtain rfl | hn := Nat.eq_zero_or_pos n
    · refine ⟨abs_sub_le_of_halfway (fun _ => ?_) (fun hv => ?_), fun _ _ => rfl⟩ <;>
        simp only [unitsOfBits_zero, Nat.cast_zero] at * <;> linarith
    · have hpos : (0 : ℝ) < unitsOfBits n := by simpa using hlt.mpr hn
      have hx := hzero hn
      refine ⟨abs_sub_le_of_halfway (fun _ => by linarith) (fun _ => by linarith), fun hne he => ?_⟩
      have hmid := eq_halfway_of_abs_sub_eq hne he
      refine h.even 0 hn.ne ?_
      simp only [halfway, unitsOfBits_zero, Nat.cast_zero]
      linarith

/-- The nearest step to a value that is not negative, cut at infinity, is its RNE32. -/
theorem isRNE32_of_isNearestStep {x : ℝ} {n : Nat} (h : IsNearestStep x n) (h0 : 0 ≤ x) :
    IsRNE32 (x / 2 ^ 149) (fpack false (min n infBits)) := by
  have habs : |x / 2 ^ 149| = x / 2 ^ 149 := abs_of_nonneg (by positivity)
  rw [IsRNE32, habs, div_lt_iff₀ (by positivity), ← h.lt_infBits_iff, le_div_iff₀ (by positivity), ← not_lt,
    ← h.lt_infBits_iff]
  refine ⟨fun hn => ?finite, fun hn => ?overflow⟩
  case finite =>
    have hlt : n < 2 ^ 31 := hn.trans infBits_lt
    rw [min_eq_left hn.le, isFinite, fbits_fpack hlt]
    refine ⟨by simpa using hn, fun u _ => ?_⟩
    have hnear := h.nearest h0 (fsign u) (fbits u)
    have hu : (fval u : ℝ) = signOf (fsign u) * unitsOfBits (fbits u) := by exact_mod_cast fval_eq u
    have hw : (fval (fpack false n) : ℝ) = unitsOfBits n := by rw [fval_fpack hlt]; simp [signOf]
    have hdist (y : ℝ) : |y / 2 ^ 149 - x / 2 ^ 149| = |y - x| / 2 ^ 149 := by
      rw [← sub_div, abs_div, abs_of_pos (a := (2 : ℝ) ^ 149) (by positivity)]
    rw [hdist, hdist, div_le_div_iff_of_pos_right (by positivity), div_left_inj' (by positivity),
      ← (Int.cast_injective (α := ℝ)).ne_iff, hu, hw]
    exact hnear
  case overflow =>
    rw [min_eq_right (not_lt.mp hn), decide_eq_false (not_lt.mpr (by positivity))]

theorem isRNE32_zero {w : Word} (h : isZero w = true) : IsRNE32 0 w := by
  have hbits : fbits w = 0 := by simpa [isZero] using h
  have hval := fval_eq_zero h
  refine ⟨fun _ => ⟨isFinite_of_isZero h, fun u _ => ⟨by simp [hval], fun _ _ => by rw [hbits]⟩⟩, fun hr => ?_⟩
  rw [abs_zero] at hr
  norm_num at hr

/-- Rounding to nearest even is symmetric. -/
theorem IsRNE32.neg {r : ℝ} {w : Word} (h : IsRNE32 r w) : IsRNE32 (-r) (fneg w) := by
  obtain ⟨hfin, hinf⟩ := h
  refine ⟨fun hr => ?finite, fun hr => ?overflow⟩
  case finite =>
    obtain ⟨hw, hnear⟩ := hfin (by rwa [abs_neg] at hr)
    refine ⟨by simpa using hw, fun u hu => ?_⟩
    have hdist (a : Word) : |(fval a : ℝ) / 2 ^ 149 - -r| = |(fval (fneg a) : ℝ) / 2 ^ 149 - r| := by
      rw [fval_fneg, Int.cast_neg, ← abs_neg]; congr 1; ring
    have := hnear (fneg u) (by simpa using hu)
    rw [hdist, hdist, fneg_fneg, fbits_fneg]
    refine ⟨this.1, fun hne => this.2 ?_⟩
    rw [fval_fneg] at *
    omega
  case overflow =>
    rw [abs_neg] at hr
    have hr0 : r ≠ 0 := by rintro rfl; rw [abs_zero] at hr; norm_num at hr
    rw [hinf hr, fneg_fpack infBits_lt]
    congr 1
    rcases hr0.lt_or_gt with hr0 | hr0
    · simp [hr0, hr0.le]
    · simp [hr0, hr0.le]

/-- `rne32` of a sign and a fraction is RNE32 of the number they stand for (R15). -/
theorem isRNE32_rne32 (neg : Bool) (num : Nat) {den : Nat} (hd : 0 < den) :
    IsRNE32 (signOf neg * ((num : ℝ) / den)) (rne32 neg num den) := by
  obtain ⟨n, hn, hnear⟩ := exists_roundBits_eq num hd
  have hpos : IsRNE32 ((num : ℝ) / den) (rne32 false num den) := by
    rw [rne32, hn]
    convert isRNE32_of_isNearestStep hnear (by positivity) using 1
    field_simp
  cases neg with
  | false => simpa [signOf] using hpos
  | true => rw [rne32_true]; simpa [signOf] using hpos.neg

/-! ### The operations on finite operands -/

section FiniteOperands
variable {a b : Word}

theorem fval_real (a : Word) : (fval a : ℝ) = signOf (fsign a) * fmag a := by exact_mod_cast fval_eq a

/-- A sum is computed exactly in units of 2^-149, and rounded once. -/
theorem isRNE32_fadd (ha : isFinite a = true) (hb : isFinite b = true) :
    IsRNE32 ((fval a : ℝ) / 2 ^ 149 + (fval b : ℝ) / 2 ^ 149) (fadd a b) := by
  have hsum : (fval a : ℝ) / 2 ^ 149 + (fval b : ℝ) / 2 ^ 149 = ((fval a + fval b : Int) : ℝ) / 2 ^ 149 := by
    push_cast; ring
  rw [hsum, fadd, isNaN_of_isFinite ha, isNaN_of_isFinite hb, isInf_of_isFinite ha, isInf_of_isFinite hb]
  generalize fval a + fval b = v
  simp only [Bool.false_eq_true, or_self, if_false]
  split
  · rename_i hv
    rw [hv, Int.cast_zero, zero_div]
    exact isRNE32_zero (by rw [isZero, fbits_fpack (by norm_num)]; rfl)
  · have hr : (v : ℝ) / 2 ^ 149 = signOf (decide (v < 0)) * ((v.natAbs : ℝ) / ((2 ^ 149 : Nat) : ℝ)) := by
      rw [Nat.cast_pow, Nat.cast_ofNat, ← mul_div_assoc, ← Int.cast_natCast v.natAbs, ← Int.cast_mul, signOf_mul_natAbs]
    rw [hr]
    exact isRNE32_rne32 _ _ (by positivity)

theorem isRNE32_fsub (ha : isFinite a = true) (hb : isFinite b = true) :
    IsRNE32 ((fval a : ℝ) / 2 ^ 149 - (fval b : ℝ) / 2 ^ 149) (fsub a b) := by
  have h := isRNE32_fadd ha (b := fneg b) (by simpa using hb)
  rwa [fval_fneg, Int.cast_neg, neg_div, ← sub_eq_add_neg] at h

/-- The product of two finite patterns is computed exactly in units of 2^-298. -/
theorem fmul_of_isFinite (ha : isFinite a = true) (hb : isFinite b = true) :
    fmul a b = rne32 (fsign a ^^ fsign b) (fmag a * fmag b) (2 ^ 298) := by
  simp [fmul, isNaN_of_isFinite ha, isNaN_of_isFinite hb, isInf_of_isFinite ha, isInf_of_isFinite hb,
    -Nat.reducePow]

theorem isRNE32_fmul (ha : isFinite a = true) (hb : isFinite b = true) :
    IsRNE32 ((fval a : ℝ) / 2 ^ 149 * ((fval b : ℝ) / 2 ^ 149)) (fmul a b) := by
  rw [fmul_of_isFinite ha hb]
  convert isRNE32_rne32 _ _ (show 0 < 2 ^ 298 by positivity) using 1
  rw [fval_real, fval_real, signOf_xor, Nat.cast_pow, show 298 = 149 + 149 from rfl, pow_add]
  push_cast
  ring

/-- The quotient by a finite pattern that is no zero. -/
theorem fdiv_of_isFinite (ha : isFinite a = true) (hb : isFinite b = true) (hz : isZero b = false) :
    fdiv a b = rne32 (fsign a ^^ fsign b) (fmag a) (fmag b) := by
  simp [fdiv, isNaN_of_isFinite ha, isNaN_of_isFinite hb, isInf_of_isFinite ha, isInf_of_isFinite hb, hz]

theorem fmag_pos (h : isZero a = false) : 0 < fmag a :=
  Nat.pos_of_ne_zero fun h0 => by simp [(fmag_eq_zero_iff a).mp h0] at h

theorem isRNE32_fdiv (ha : isFinite a = true) (hb : isFinite b = true) (hz : isZero b = false) :
    IsRNE32 ((fval a : ℝ) / 2 ^ 149 / ((fval b : ℝ) / 2 ^ 149)) (fdiv a b) := by
  rw [fdiv_of_isFinite ha hb hz]
  convert isRNE32_rne32 _ _ (fmag_pos hz) using 1
  have hinv : (signOf (fsign b) : ℝ)⁻¹ = signOf (fsign b) := by cases fsign b <;> simp [signOf]
  rw [div_div_div_cancel_right₀ (by positivity), fval_real, fval_real, signOf_xor, mul_div_mul_comm, Int.cast_mul,
    div_eq_mul_inv (signOf _ : ℝ), hinv]

/-- The root of a positive finite pattern: the floor of the root of `fmag a * 2^151` with one bit more, which says whether
that root is whole. -/
theorem fsqrt_of_pos (ha : isFinite a = true) (hz : isZero a = false) (hs : fsign a = false) :
    fsqrt a = rne32 false (2 * isqrt (fmag a * 2 ^ 151) +
      (if isqrt (fmag a * 2 ^ 151) * isqrt (fmag a * 2 ^ 151) = fmag a * 2 ^ 151 then 0 else 1)) (2 ^ 151) := by
  simp [fsqrt, isNaN_of_isFinite ha, isInf_of_isFinite ha, hz, hs]

theorem half_le_quarter_iff (k N : Nat) : (k : ℝ) / 2 ≤ (N : ℝ) / 4 ↔ 2 * k ≤ N := by
  rw [← Nat.cast_le (α := ℝ), Nat.cast_mul, Nat.cast_ofNat]
  constructor <;> intro h <;> linarith

theorem quarter_le_half_iff (k N : Nat) : (N : ℝ) / 4 ≤ (k : ℝ) / 2 ↔ N ≤ 2 * k := by
  rw [← Nat.cast_le (α := ℝ), Nat.cast_mul, Nat.cast_ofNat]
  constructor <;> intro h <;> linarith

/-- The floor of a root with one bit more compares with whole numbers as the root itself does. -/
theorem IsNearestStep.of_isqrt {m n : Nat}
    (h : IsNearestStep (((2 * isqrt m + (if isqrt m * isqrt m = m then 0 else 1) : Nat) : ℝ) / 4) n) :
    IsNearestStep (Real.sqrt m / 2) n := by
  obtain ⟨hlow, hhigh⟩ := isqrt_spec m
  generalize isqrt m = r at *
  have hsq (k : Nat) : (k : ℝ) * k = ((k * k : Nat) : ℝ) := (Nat.cast_mul k k).symm
  refine h.congr (fun k => ?low) (fun k => ?high)
  case low =>
    have hfloor : k ≤ r ↔ k * k ≤ m :=
      ⟨fun hk => (Nat.mul_self_le_mul_self hk).trans hlow,
        fun hk => Nat.lt_succ_iff.mp (Nat.mul_self_lt_mul_self_iff.mp (hk.trans_lt hhigh))⟩
    rw [div_le_div_iff_of_pos_right two_pos, Real.le_sqrt (Nat.cast_nonneg k) (Nat.cast_nonneg m), pow_two, hsq,
      Nat.cast_le, ← hfloor, half_le_quarter_iff]
    split <;> omega
  case high =>
    rw [div_le_div_iff_of_pos_right two_pos, Real.sqrt_le_left (Nat.cast_nonneg k), pow_two, hsq, Nat.cast_le,
      quarter_le_half_iff]
    split
    · rename_i hr
      rw [← hr, Nat.mul_self_le_mul_self_iff]; omega
    · have hceil : r < k ↔ m ≤ k * k :=
        ⟨fun hk => hhigh.le.trans (Nat.mul_self_le_mul_self hk),
          fun hk => Nat.mul_self_lt_mul_self_iff.mp (by omega)⟩
      rw [← hceil]; omega

/-- The root of `k` units is half the root of `k * 2^151`, in units. -/
theorem sqrt_units (k : Nat) : Real.sqrt ((k : ℝ) / 2 ^ 149) = Real.sqrt (k * 2 ^ 151 : Nat) / 2 / 2 ^ 149 := by
  have hsq : ((2 : ℝ) ^ 150) ^ 2 = 2 ^ 149 * 2 ^ 151 := by rw [← pow_mul, ← pow_add]
  have hk : (k : ℝ) / 2 ^ 149 = (k * 2 ^ 151 : Nat) / (2 ^ 150 : ℝ) ^ 2 := by
    rw [hsq, Nat.cast_mul, Nat.cast_pow, Nat.cast_ofNat, mul_div_mul_right _ _ (by positivity)]
  rw [hk, Real.sqrt_div' _ (by positivity), Real.sqrt_sq (by positivity), div_div]
  norm_num

theorem isRNE32_fsqrt_of_pos (ha : isFinite a = true) (hz : isZero a = false) (hs : fsign a = false) :
    IsRNE32 (Real.sqrt ((fmag a : ℝ) / 2 ^ 149)) (fsqrt a) := by
  rw [fsqrt_of_pos ha hz hs, sqrt_units]
  generalize fmag a * 2 ^ 151 = m
  obtain ⟨n, hn, hnear⟩ := exists_roundBits_eq (2 * isqrt m + (if isqrt m * isqrt m = m then 0 else 1))
    (show 0 < 2 ^ 151 by positivity)
  rw [rne32, hn]
  refine isRNE32_of_isNearestStep (IsNearestStep.of_isqrt ?_) (by positivity)
  convert hnear using 1
  rw [Nat.cast_pow, Nat.cast_ofNat, show (2 : ℝ) ^ 151 = 4 * 2 ^ 149 by norm_num, mul_div_mul_right _ _ (by positivity)]

/-- Of the patterns below zero only -0.0 has a value that is not negative. -/
theorem fsign_of_fval_nonneg (hz : isZero a = false) (hx : 0 ≤ (fval a : ℝ) / 2 ^ 149) : fsign a = false := by
  by_contra hs
  have hpos : (0 : ℝ) < fmag a := by exact_mod_cast fmag_pos hz
  have hval : (fval a : ℝ) = -fmag a := by rw [fval_real]; simp [signOf, hs]
  rw [hval, le_div_iff₀ (by positivity)] at hx
  linarith

theorem isRNE32_fsqrt (ha : isFinite a = true) (hx : 0 ≤ (fval a : ℝ) / 2 ^ 149) :
    IsRNE32 (Real.sqrt ((fval a : ℝ) / 2 ^ 149)) (fsqrt a) := by
  cases hz : isZero a with
  | true =>
    rw [fval_eq_zero hz, Int.cast_zero, zero_div, Real.sqrt_zero, fsqrt, isNaN_of_isFinite ha, hz]
    exact isRNE32_zero hz
  | false =>
    have hs := fsign_of_fval_nonneg hz hx
    have hval : (fval a : ℝ) = fmag a := by rw [fval_real]; simp [signOf, hs]
    rw [hval]
    exact isRNE32_fsqrt_of_pos ha hz hs

end FiniteOperands

/-! ### Comparisons -/

section Comparisons
variable {a b : Word}

/-- The bits of finite patterns order as their values do; both zeros are equal (R15). -/
theorem forder_lt_iff (a b : Word) : forder b < forder a ↔ fval b < fval a := by
  have hlt : fmag b < fmag a ↔ fbits b < fbits a := unitsOfBits_strictMono.lt_iff_lt
  have hgt : fmag a < fmag b ↔ fbits a < fbits b := unitsOfBits_strictMono.lt_iff_lt
  have ha : fmag a = 0 ↔ fbits a = 0 := by rw [fmag_eq_zero_iff, isZero, beq_iff_eq]
  have hb : fmag b = 0 ↔ fbits b = 0 := by rw [fmag_eq_zero_iff, isZero, beq_iff_eq]
  unfold forder fval
  split <;> split <;> omega

theorem fgt_iff_of_isFinite (ha : isFinite a = true) (hb : isFinite b = true) :
    fgt a b = true ↔ (fval b : ℝ) / 2 ^ 149 < (fval a : ℝ) / 2 ^ 149 := by
  rw [fgt, isNaN_of_isFinite ha, isNaN_of_isFinite hb, div_lt_div_iff_of_pos_right (by positivity), Int.cast_lt,
    ← forder_lt_iff]
  simp

end Comparisons

/-! ### NaN results -/

section NaNs
variable (a b : Word)

theorem isNaN_fpack {neg : Bool} {n : Nat} (h : n ≤ infBits) : isNaN (fpack neg n) = false := by
  rw [isNaN, fbits_fpack (h.trans_lt infBits_lt)]
  simpa using h

/-- A sum that is a NaN is the canonical one. -/
theorem fadd_qNaN_or : fadd a b = qNaN ∨ isNaN (fadd a b) = false := by
  unfold fadd
  split
  · exact .inl rfl
  split
  · split
    · exact .inl rfl
    · exact .inr (isNaN_of_isInf ‹_›)
  split
  · exact .inr (isNaN_of_isInf ‹_›)
  split
  · exact .inr (isNaN_fpack (Nat.zero_le _))
  · exact .inr (isNaN_rne32 ..)

theorem fmul_qNaN_or : fmul a b = qNaN ∨ isNaN (fmul a b) = false := by
  unfold fmul
  split
  · exact .inl rfl
  split
  · split
    · exact .inl rfl
    · exact .inr (isNaN_fpack le_rfl)
  · exact .inr (isNaN_rne32 ..)

theorem fdiv_qNaN_or : fdiv a b = qNaN ∨ isNaN (fdiv a b) = false := by
  unfold fdiv
  split
  · exact .inl rfl
  split
  · split
    · exact .inl rfl
    · exact .inr (isNaN_fpack le_rfl)
  split
  · exact .inr (isNaN_fpack (Nat.zero_le _))
  split
  · split
    · exact .inl rfl
    · exact .inr (isNaN_fpack le_rfl)
  · exact .inr (isNaN_rne32 ..)

theorem fsqrt_qNaN_or : fsqrt a = qNaN ∨ isNaN (fsqrt a) = false := by
  unfold fsqrt
  split
  · exact .inl rfl
  split
  · exact .inr (by simpa using ‹¬isNaN a = true›)
  split
  · exact .inl rfl
  split
  · exact .inr (isNaN_of_isInf ‹_›)
  · exact .inr (isNaN_rne32 ..)

end NaNs

/-! ### Numbers that are exact -/

/-- A step of the ladder is nearest to itself alone. -/
theorem IsNearestStep.eq_of_units {n k : Nat} (h : IsNearestStep (unitsOfBits k) n) : n = k := by
  have hlt {j l : Nat} (hjl : j < l) : (unitsOfBits j : ℝ) < unitsOfBits l := by
    exact_mod_cast unitsOfBits_strictMono hjl
  obtain hn | hn | hn := lt_trichotomy n k
  · have habove := h.above k hn
    unfold halfway at habove
    linarith [hlt hn]
  · exact hn
  · have hbelow := h.below k hn
    unfold halfway at hbelow
    linarith [hlt hn]

/-- A number with a finite pattern is rounded to that pattern. -/
theorem rne32_exact {neg : Bool} {num den k : Nat} (hd : 0 < den) (hk : k < infBits)
    (h : num * 2 ^ 149 = unitsOfBits k * den) : rne32 neg num den = fpack neg k := by
  obtain ⟨n, hn, hnear⟩ := exists_roundBits_eq num hd
  have hx : (num : ℝ) * 2 ^ 149 / den = unitsOfBits k := by
    rw [div_eq_iff (by positivity)]; exact_mod_cast h
  rw [hx] at hnear
  rw [rne32, hn, hnear.eq_of_units, min_eq_left hk.le]

/-- Every whole number of at most 24 bits, and 2^24, has a finite pattern. -/
theorem exists_bits_of_le {n : Nat} (h : n ≤ 2 ^ 24) : ∃ k, k < infBits ∧ unitsOfBits k = n * 2 ^ 149 := by
  obtain rfl | hn := Nat.eq_zero_or_pos n
  · exact ⟨0, by decide, by simp⟩
  · obtain ⟨e, he, hlow, hhigh⟩ : ∃ e, e ≤ 23 ∧ 2 ^ e ≤ n ∧ n ≤ 2 ^ (e + 1) := by
      obtain rfl | hlt := h.eq_or_lt
      · exact ⟨23, le_rfl, by norm_num, le_rfl⟩
      · have hlog : Nat.log2 n < 24 := (Nat.log2_lt hn.ne').mpr hlt
        exact ⟨Nat.log2 n, by omega, Nat.log2_self_le hn.ne', Nat.lt_log2_self.le⟩
    have hq : 2 ^ 23 ≤ n * 2 ^ (23 - e) ∧ n * 2 ^ (23 - e) ≤ 2 ^ 24 := by
      have hlow := Nat.mul_le_mul_right (2 ^ (23 - e)) hlow
      have hhigh := Nat.mul_le_mul_right (2 ^ (23 - e)) hhigh
      rw [← Nat.pow_add] at hlow hhigh
      rw [show e + (23 - e) = 23 by omega] at hlow
      rw [show e + 1 + (23 - e) = 24 by omega] at hhigh
      exact ⟨hlow, hhigh⟩
    refine ⟨(126 + e) * 2 ^ 23 + n * 2 ^ (23 - e), by unfold infBits; omega, ?_⟩
    rw [unitsOfBits_fields (.inr hq.1) hq.2, Nat.mul_assoc, ← Nat.pow_add, show 23 - e + (126 + e) = 149 by omega]

theorem f32_exact {n : Nat} (h : n ≤ 2 ^ 24) : isFinite (f32 n) = true ∧ fval (f32 n) = n * 2 ^ 149 := by
  obtain ⟨k, hk, hunits⟩ := exists_bits_of_le h
  have hlt : k < 2 ^ 31 := hk.trans infBits_lt
  rw [f32, rne32_exact one_pos hk (by rw [hunits, Nat.mul_one]), isFinite, fbits_fpack hlt, fval_fpack hlt, hunits]
  exact ⟨by simpa using hk, by simp [signOf]⟩

/-- Settles O49: each operation's exact result is a fraction or a root that `rne32` rounds to the nearest step. -/
theorem operationsRoundOnce : Obligations.OperationsRoundOnce := by
  refine ⟨fun a b ha hb => ?finite, fun a b h => ?nan, fun a b => ?canonical, fun n hn => f32_exact hn⟩
  case finite =>
    exact ⟨isRNE32_fadd ha hb, isRNE32_fsub ha hb, isRNE32_fmul ha hb, isRNE32_fdiv ha hb, isRNE32_fsqrt ha,
      fgt_iff_of_isFinite ha hb, fgt_iff_of_isFinite hb ha⟩
  case nan =>
    refine ⟨if_pos h, if_pos (by simpa using h), if_pos h, if_pos h, ?_⟩
    obtain h | h := h
    · exact ⟨fgt_of_isNaN_left h b, fgt_of_isNaN_right h b⟩
    · exact ⟨fgt_of_isNaN_right h a, fgt_of_isNaN_left h a⟩
  case canonical =>
    have canonical {w : Word} (h : w = qNaN ∨ isNaN w = false) (hn : isNaN w = true) : w = qNaN :=
      h.resolve_right (by simp [hn])
    exact ⟨canonical (fadd_qNaN_or a b), canonical (fmul_qNaN_or a b), canonical (fdiv_qNaN_or a b),
      canonical (fsqrt_qNaN_or a)⟩

/-! ### Special operands -/

section SpecialOperands
variable {a b : Word}

theorem eq_fpack_iff {neg : Bool} {n : Nat} (h : n < 2 ^ 31) : a = fpack neg n ↔ fsign a = neg ∧ fbits a = n := by
  constructor
  · rintro rfl; exact ⟨fsign_fpack h, fbits_fpack h⟩
  · rintro ⟨rfl, rfl⟩; exact (fpack_fsign_fbits a).symm

/-- The infinity and the zero of the sign of a product or a quotient. -/
theorem fpack_xor_infBits (p q : Bool) :
    fpack (p ^^ q) infBits = if p = q then (0x7F800000 : Word) else 0xFF800000 := by
  cases p <;> cases q <;> rfl

theorem fpack_xor_zero (p q : Bool) : fpack (p ^^ q) 0 = if p = q then (0x00000000 : Word) else 0x80000000 := by
  cases p <;> cases q <;> rfl

theorem fpack_and_zero (p q : Bool) :
    fpack (p && q) 0 = if p = true ∧ q = true then (0x80000000 : Word) else 0x00000000 := by
  cases p <;> cases q <;> rfl

theorem isNaN_of_isZero (h : isZero a = true) : isNaN a = false := isNaN_of_isFinite (isFinite_of_isZero h)

theorem fadd_of_isInf (ha : isInf a = true) (hb : isNaN b = false) :
    fadd a b = if isInf b = true ∧ fsign a ≠ fsign b then qNaN else a := by
  simp [fadd, isNaN_of_isInf ha, hb, ha]

/-- Infinities of one sign are one pattern, so a sum with an infinity does not depend on the order. -/
theorem fadd_comm_of_isInf (ha : isInf a = true) (hb : isNaN b = false) : fadd b a = fadd a b := by
  rw [fadd_of_isInf ha hb]
  cases hi : isInf b with
  | true =>
    rw [fadd_of_isInf hi (isNaN_of_isInf ha), ha]
    by_cases hs : fsign a = fsign b
    · have : fbits a = fbits b := by simp only [isInf, beq_iff_eq] at ha hi; rw [ha, hi]
      simp [eq_of_fsign_of_fbits hs this]
    · simp [hs, Ne.symm hs]
  | false => simp [fadd, isNaN_of_isInf ha, hb, ha, hi]

theorem fmul_of_isInf (ha : isInf a = true) (hb : isNaN b = false) :
    fmul a b = if isZero b then qNaN else fpack (fsign a ^^ fsign b) infBits := by
  have hz : isZero a = false := by
    simp only [isInf, isZero, beq_iff_eq, beq_eq_false_iff_ne] at *; rw [ha]; decide
  simp [fmul, isNaN_of_isInf ha, hb, ha, hz]

theorem fmul_comm (a b : Word) : fmul b a = fmul a b := by
  simp only [fmul, or_comm, Bool.xor_comm, Nat.mul_comm]

theorem fdiv_of_isInf (ha : isInf a = true) (hb : isNaN b = false) :
    fdiv a b = if isInf b then qNaN else fpack (fsign a ^^ fsign b) infBits := by
  simp [fdiv, isNaN_of_isInf ha, hb, ha]

theorem fdiv_by_isInf (ha : isFinite a = true) (hb : isInf b = true) : fdiv a b = fpack (fsign a ^^ fsign b) 0 := by
  simp [fdiv, isNaN_of_isFinite ha, isInf_of_isFinite ha, isNaN_of_isInf hb, hb]

theorem fdiv_by_isZero (ha : isFinite a = true) (hb : isZero b = true) :
    fdiv a b = if isZero a then qNaN else fpack (fsign a ^^ fsign b) infBits := by
  simp [fdiv, isNaN_of_isFinite ha, isInf_of_isFinite ha, isNaN_of_isZero hb,
    isInf_of_isFinite (isFinite_of_isZero hb), hb]

theorem fsqrt_of_isZero (h : isZero a = true) : fsqrt a = a := by simp [fsqrt, isNaN_of_isZero h, h]

/-- The root of a number below zero, and of a NaN of that sign, is a NaN. -/
theorem fsqrt_of_neg (hz : isZero a = false) (hs : fsign a = true) : fsqrt a = qNaN := by simp [fsqrt, hz, hs]

/-- A finite sum of zero is +0.0 unless both operands are negative, which only zeros can be. -/
theorem fadd_of_sum_zero (ha : isFinite a = true) (hb : isFinite b = true) (h : fval a + fval b = 0) :
    fadd a b = fpack (fsign a && fsign b) 0 := by
  simp [fadd, isNaN_of_isFinite ha, isNaN_of_isFinite hb, isInf_of_isFinite ha, isInf_of_isFinite hb, h]

theorem fsign_fsqrt (ha : isFinite a = true) (hs : fsign a = false) : fsign (fsqrt a) = false := by
  cases hz : isZero a with
  | true => rw [fsqrt_of_isZero hz, hs]
  | false => rw [fsqrt_of_pos ha hz hs, fsign_rne32]

/-- No number lies beyond the infinities. -/
theorem forder_bounds (h : isNaN a = false) : -(infBits : Int) ≤ forder a ∧ forder a ≤ infBits := by
  have hle : fbits a ≤ infBits := by simpa [isNaN] using h
  unfold forder
  split <;> omega

theorem forder_eq_infBits : forder a = infBits ↔ a = 0x7F800000 := by
  have hpos : 0 < infBits := by decide
  rw [show (0x7F800000 : Word) = fpack false infBits from rfl, eq_fpack_iff infBits_lt, forder]
  cases fsign a
  · simp
  · simp only [if_true, Bool.true_eq_false, false_and, iff_false]; omega

theorem forder_eq_neg_infBits : forder a = -infBits ↔ a = 0xFF800000 := by
  have hpos : 0 < infBits := by decide
  rw [show (0xFF800000 : Word) = fpack true infBits from rfl, eq_fpack_iff infBits_lt, forder]
  cases fsign a
  · simp only [Bool.false_eq_true, if_false, false_and, iff_false]; omega
  · simp

theorem fgt_iff (a b : Word) : fgt a b = true ↔ isNaN a = false ∧ isNaN b = false ∧ forder b < forder a := by
  simp [fgt, and_assoc]

theorem inf_fgt_iff (b : Word) : fgt 0x7F800000 b = true ↔ isNaN b = false ∧ b ≠ 0x7F800000 := by
  rw [fgt_iff, forder_eq_infBits.mpr rfl, ne_eq, ← forder_eq_infBits]
  exact ⟨fun ⟨_, hb, hlt⟩ => ⟨hb, hlt.ne⟩,
    fun ⟨hb, hne⟩ => ⟨by decide, hb, lt_of_le_of_ne (forder_bounds hb).2 hne⟩⟩

theorem fgt_inf (b : Word) : fgt b 0x7F800000 = false := by
  rw [← Bool.not_eq_true, fgt_iff, forder_eq_infBits.mpr rfl]
  exact fun ⟨hb, _, hlt⟩ => hlt.not_ge (forder_bounds hb).2

theorem fgt_neg_inf_iff (b : Word) : fgt b 0xFF800000 = true ↔ isNaN b = false ∧ b ≠ 0xFF800000 := by
  rw [fgt_iff, forder_eq_neg_infBits.mpr rfl, ne_eq, ← forder_eq_neg_infBits]
  exact ⟨fun ⟨hb, _, hlt⟩ => ⟨hb, hlt.ne'⟩,
    fun ⟨hb, hne⟩ => ⟨hb, by decide, lt_of_le_of_ne (forder_bounds hb).1 (Ne.symm hne)⟩⟩

theorem neg_inf_fgt (b : Word) : fgt 0xFF800000 b = false := by
  rw [← Bool.not_eq_true, fgt_iff, forder_eq_neg_infBits.mpr rfl]
  exact fun ⟨_, hb, hlt⟩ => hlt.not_ge (forder_bounds hb).1

end SpecialOperands

/-- Settles O60: one equation for each kind of special operand. -/
theorem specialOperandsFollowIEEE : Obligations.SpecialOperandsFollowIEEE := by
  refine ⟨fun a b ha hb => ?infinite, fun a b ha hb => ?byInfinity, fun a b ha hb => ?byZero, fun _ _ => rfl,
    fun a => ?root, ?rootOfInfinity, fun a b ha hb => ?signs, fun b => ?comparisons, fun _ _ => rfl⟩
  case infinite =>
    refine ⟨fadd_of_isInf ha hb, fadd_comm_of_isInf ha hb, ?_, fmul_comm a b, ?_⟩
    · rw [fmul_of_isInf ha hb, fpack_xor_infBits]
    · rw [fdiv_of_isInf ha hb, fpack_xor_infBits]
  case byInfinity => rw [fdiv_by_isInf ha hb, fpack_xor_zero]
  case byZero => rw [fdiv_by_isZero ha hb, fpack_xor_infBits]
  case root => exact ⟨fun h => if_pos h, fsqrt_of_isZero, fsqrt_of_neg⟩
  case rootOfInfinity => decide
  case signs =>
    refine ⟨fun h => ?_, ?_, fun hz => ?_, fsign_fsqrt ha⟩
    · rw [fadd_of_sum_zero ha hb h, fpack_and_zero]
    · rw [fmul_of_isFinite ha hb, fsign_rne32]
    · rw [fdiv_of_isFinite ha hb hz, fsign_rne32]
  case comparisons => exact ⟨inf_fgt_iff b, fgt_inf b, fgt_neg_inf_iff b, neg_inf_fgt b⟩

end Sys2Proof.Machine
end

section
/-! SUPPORT. What one event of the block can do, said once: every step is a chain of the effects listed here, so an
invariant that each effect keeps is kept by every step. -/

namespace Sys2Proof.Machine

open Relation (ReflTransGen)

/-- One effect of an event on the state, under the condition the block performs it in. An event is a chain of them. -/
inductive Effect (s : State) : State → Prop where
  /-- The schedule, the turn and the programs, none of which is the block's (R149). -/
  | agents (l : List Agent) (n m : Nat) (who : Agent) (host producer reader : List AgentOp) :
      Effect s { s with
        sched := l, turns := n, waitFrom := m, turn := who, hostProg := host, producerProg := producer, readerProg := reader }
  /-- The bus answers (R72, R75). -/
  | bus (data : Word) (error : Bool) : Effect s { s with busData := data, busError := error }
  /-- A write outside its sender's role is marked (R150). -/
  | mark : Effect s { s with refusedMark := true }
  /-- A fault is recorded (R132). -/
  | fault (c : FaultCode) (info : Word) : Effect s (raiseFault c info s)
  /-- The fault record is acknowledged (R128). -/
  | acknowledge : Effect s (clearFault s)
  /-- A write to CTRL (R21). -/
  | ctrl (v : Word) : Effect s (writeCtrl v s)
  /-- A write to IRQ_EN (R32). -/
  | irqEn (v : Word) : Effect s (writeIrqEn v s)
  /-- A write to IRQ_PEND (R33). -/
  | irqPend (v : Word) : Effect s (writeIrqPend v s)
  /-- A write to a CFG register (R34). -/
  | cfg (c : CfgReg) (v : Word) : s.mode = .idle → Effect s { s with cfg := s.cfg.set v c }
  /-- A write to an array element (R73). -/
  | elem (a : Addr) (g : Region) (v : Word) : locate s.lat a.toNat = .elem g → g.rwa = true → s.arrayWritable = true →
      Effect s { s with mem := s.mem.writeWord a.toNat v }
  /-- A sample is staged (R92). -/
  | sample (v : Word) : Effect s (stageSample v s)
  /-- A PUSH outside RUNNING (R93). -/
  | ignore : s.mode ≠ .running → Effect s (ignorePush s)
  /-- A malformed frame is discarded and the session FAULTED, before its fault is recorded (R93). -/
  | malformed : s.mode = .running → Effect s { s with stgCnt := 0, mode := .faulted }
  /-- A well-formed frame is committed after its overrun check (R93, R94). -/
  | commit : s.mode = .running → s.stgCnt = 128 → Effect s (commitFrame (overrunCheck s))
  /-- The sequencer's registers: a command starts, goes on to its next stage, or has finished (R118, R119, R121). -/
  | sequencer (busy wait : Bool) (st : Stage) (cmd : Word) :
      Effect s { s with cbusy := busy, cwait := wait, cstage := st, curcmd := cmd }
  /-- Teardown while a command runs (R127, R128). -/
  | stopping : s.mode ≠ .idle → s.cbusy = true → Effect s { s with mode := .stopping }
  /-- Teardown with no command running (R119, R127, R128). -/
  | idle : s.mode ≠ .idle → s.cbusy = false → Effect s (goIdle s)
  /-- START of a legal configuration (R124). -/
  | start : s.mode = .idle → firstIllegal s.cfg = none →
      Effect s { startInit (latch s.cfg) s with mode := .running }
  /-- SRST (R129, R147). -/
  | reset : Effect s (resetEvent s)
  /-- SNAPSHOT's completion (R96). -/
  | snapshot : s.mode = .running → s.snapshotReady = true → Effect s (takeSnapshot s)
  /-- TRANSIENT's stage (R108). -/
  | transient : Effect s (transientEvent s)
  /-- WINDOW's stage (R100). -/
  | window : Effect s (windowEvent s)
  /-- ZEROPAD's stage (R101). -/
  | zeropad : Effect s (zeropadEvent s)
  /-- FFT's stage (R102). -/
  | fft : Effect s (fftEvent s)
  /-- MAG's stage (R104). -/
  | mag : Effect s (magEvent s)
  /-- WHITEN's stage (R105). -/
  | whiten : Effect s (whitenEvent s)
  /-- SOLVE's stage (R115). -/
  | solve : Effect s (solveEvent s)
  /-- PUBLISH's stage (R120). -/
  | publish : Effect s (publishEvent s)

/-- A chain of effects. -/
abbrev Effects : State → State → Prop := ReflTransGen Effect

/-! ### Shared operations as chains of effects -/

section Operations
variable (s : State)

theorem effects_fault (c : FaultCode) (info : Word) : Effects s (raiseFault c info s) := .single (.fault c info)

theorem effects_answer (data : Word) : Effects s (answer data s) := .single (.bus data false)

theorem effects_raiseBusError (a : Addr) : Effects s (raiseBusError a s) :=
  (effects_fault s .buserr (a.zeroExtend 32)).tail (.bus 0 true)

theorem effects_rejectFrame (c : FaultCode) (info : Word) (h : s.mode = .running) : Effects s (rejectFrame c info s) :=
  .head (.malformed h) (effects_fault _ c info)

theorem effects_advance (st : Stage) : Effects s (advance st s) :=
  .single (.sequencer s.cbusy s.cwait st s.curcmd)

theorem effects_startCommand (i : Instr) (st : Stage) : Effects s (startCommand i st s) :=
  .single (.sequencer true (if st = .snapshot then true else s.cwait) st (encode i))

theorem effects_finish : Effects s (finish s) := by
  have hfree : Effects s { s with cbusy := false, cwait := false, cstage := .none, curcmd := 0 } :=
    .single (.sequencer false false .none 0)
  obtain ⟨hm, h⟩ | ⟨_, h⟩ := finish_cases s <;> rw [h]
  · exact hfree.tail (.idle (by simp [hm]) rfl)
  · exact hfree

theorem effects_requestTeardown (hm : s.mode ≠ .idle) : Effects s (requestTeardown s) := by
  obtain ⟨hb, h⟩ | ⟨hb, h⟩ := requestTeardown_cases s <;> rw [h]
  · exact .single (.stopping hm hb)
  · exact .single (.idle hm hb)

theorem effects_accept (i : Instr) (st : Stage) : Effects s (accept i st s) := by
  obtain ⟨_, h⟩ | ⟨_, _, h⟩ | ⟨_, _, _, h⟩ | ⟨_, _, _, h⟩ := accept_cases i st s <;> rw [h]
  · exact effects_fault ..
  · exact effects_fault ..
  · exact effects_fault ..
  · exact effects_startCommand ..

variable {s} in
theorem effects_finish_of {u : State} (h : Effects s u) : Effects s (finish u) := h.trans (effects_finish u)

variable {s} in
theorem effects_advance_of {u : State} (st : Stage) (h : Effect s u) : Effects s (advance st u) :=
  (ReflTransGen.single h).trans (effects_advance u st)

theorem effects_singleStage (i : Instr) (st : Stage) {event : State → State} (h : Effect s (event s)) :
    Effects s (singleStage i st event s) := by
  obtain ⟨_, e⟩ | ⟨_, e⟩ := singleStage_cases i st event s <;> rw [e]
  · exact effects_finish_of (.single h)
  · exact effects_accept s i st

theorem effects_busRead (a : Addr) (size : Nat) : Effects s (busRead a size s) := by
  obtain ⟨v, _, _, h⟩ | ⟨_, h⟩ := busRead_cases a size s <;> rw [h]
  · exact effects_answer s v
  · exact effects_raiseBusError s a

theorem effects_writeReg (a : Addr) (r : Reg) (v : Word) : Effects s (writeReg a r v s) := by
  cases r with
  | ctrl => exact .single (.ctrl v)
  | irqEn => exact .single (.irqEn v)
  | irqPend => exact .single (.irqPend v)
  | pdata => exact .single (.sample v)
  | cfg c =>
    simp only [writeReg, writeCfg]
    split
    · exact .single (.cfg c v ‹_›)
    · exact effects_raiseBusError s a
  | _ => exact effects_raiseBusError s a

theorem effects_writeElem (a : Addr) (g : Region) (v : Word) (hl : locate s.lat a.toNat = .elem g) :
    Effects s (writeElem a g v s) := by
  unfold writeElem
  split
  · next h =>
    rw [Bool.and_eq_true] at h
    exact .single (.elem a g v hl h.1 h.2)
  · exact effects_raiseBusError s a

theorem effects_setProg (who : Agent) (ops : List AgentOp) : Effects s (s.setProg who ops) := by
  cases who with
  | host => exact .single (.agents _ _ _ _ ops _ _)
  | producer => exact .single (.agents _ _ _ _ _ ops _)
  | reader => exact .single (.agents _ _ _ _ _ _ ops)
  | sequencer => exact .refl

theorem effects_markRole (who : Agent) (a : Addr) (size : Nat) : Effects s (markRole who a size s) := by
  unfold markRole
  split
  · exact .single .mark
  · exact .refl

end Operations

/-! ### Commands, accesses and events as chains of effects -/

section Events
variable {s t : State}

theorem execPush_effects {ch : BitVec 8} (h : execPush ch s = .next t) : Effects s t := by
  obtain ⟨hm, e⟩ | ⟨hm, _, e⟩ | ⟨hm, _, _, e⟩ | ⟨hm, _, hn, e⟩ := execPush_cases ch s <;> rw [e] at h <;> cases h
  · exact .single (.ignore hm)
  · exact effects_rejectFrame s _ _ hm
  · exact effects_rejectFrame s _ _ hm
  · exact .single (.commit hm hn)

theorem execNop_effects (h : execNop s = .next t) : Effects s t := by
  unfold execNop at h
  split at h
  · cases h; exact effects_fault ..
  · split at h <;> cases h
    · exact effects_fault ..
    · exact .refl

theorem execSnapshot_effects (h : execSnapshot s = .next t) : Effects s t := by
  unfold execSnapshot at h
  split at h
  · split at h
    · cases h; exact .refl
    · next hr =>
      split at h <;> cases h
      · exact effects_finish s
      · next hm => exact effects_finish_of (.single (.snapshot (not_not.mp hm) (by simpa using hr)))
  · cases h; exact effects_accept ..

theorem stepStage_effects (h : stepStage s = .next t) : Effects s t := by
  obtain ⟨_, e⟩ | ⟨_, _, e⟩ | ⟨_, _, _, e⟩ | ⟨_, hr, hm, e⟩ | ⟨_, e⟩ | ⟨_, e⟩ | ⟨_, e⟩ | ⟨_, e⟩ | ⟨_, e⟩ | ⟨_, e⟩ | ⟨_, e⟩ |
    ⟨_, e⟩ := stepStage_cases s <;> rw [e] at h <;> cases h
  · exact .refl
  · exact effects_finish s
  · exact effects_advance_of _ (.snapshot hm hr)
  · exact effects_advance_of _ .transient
  · exact effects_advance_of _ .window
  · exact effects_advance_of _ .zeropad
  · exact effects_advance_of _ .fft
  · exact effects_advance_of _ .mag
  · exact effects_advance_of _ .whiten
  · exact effects_advance_of _ .solve
  · exact effects_finish_of (.single .publish)

theorem execStep_effects (h : execStep s = .next t) : Effects s t := by
  unfold execStep at h
  split at h
  · exact stepStage_effects h
  · cases h; exact effects_accept ..

theorem execStart_effects (h : execStart s = .next t) : Effects s t := by
  obtain ⟨_, e⟩ | ⟨_, _, _, e⟩ | ⟨hm, hf, e⟩ := execStart_cases s <;> rw [e] at h <;> cases h
  · exact effects_fault ..
  · exact effects_fault ..
  · exact .single (.start hm hf)

theorem execStop_effects (h : execStop s = .next t) : Effects s t := by
  unfold execStop at h
  split at h <;> cases h
  · next hm => exact effects_requestTeardown s (by simp [hm])
  · exact .refl

theorem execClrfault_effects (h : execClrfault s = .next t) : Effects s t := by
  unfold execClrfault at h
  split at h <;> cases h
  · next hm => exact .head .acknowledge (effects_requestTeardown _ (by simp [hm]))
  · exact .single .acknowledge

theorem execSrst_effects {key : BitVec 8} (h : execSrst key s = .next t) : Effects s t := by
  unfold execSrst at h
  split at h <;> cases h
  · exact .single .reset
  · exact effects_fault ..

theorem exec_effects {i : Instr} (h : exec i s = .next t) : Effects s t := by
  cases i with
  | push ch => exact execPush_effects h
  | nop => exact execNop_effects h
  | snapshot => exact execSnapshot_effects h
  | transient => cases h; exact effects_singleStage _ _ _ .transient
  | window => cases h; exact effects_singleStage _ _ _ .window
  | zeropad => cases h; exact effects_singleStage _ _ _ .zeropad
  | fft => cases h; exact effects_singleStage _ _ _ .fft
  | mag => cases h; exact effects_singleStage _ _ _ .mag
  | whiten => cases h; exact effects_singleStage _ _ _ .whiten
  | solve => cases h; exact effects_singleStage _ _ _ .solve
  | publish => cases h; exact effects_singleStage _ _ _ .publish
  | step => exact execStep_effects h
  | start => exact execStart_effects h
  | stop => exact execStop_effects h
  | clrfault => exact execClrfault_effects h
  | srst key => exact execSrst_effects h

theorem submit_effects {p : Port} {w : Word} (h : submit p w s = .next t) : Effects s t := by
  obtain ⟨i, _, e⟩ | ⟨_, _, e⟩ := submit_cases p w s <;> rw [e] at h
  · exact exec_effects h
  · cases h; exact effects_fault ..

theorem busWrite_effects {a : Addr} {size : Nat} {v : Word} (h : busWrite a size v s = .next t) : Effects s t := by
  obtain ⟨_, e⟩ | ⟨p, _, _, e⟩ | ⟨r, _, _, _, e⟩ | ⟨g, _, hl, e⟩ | ⟨_, _, e⟩ := busWrite_cases a size v s <;> rw [e] at h
  · cases h; exact effects_raiseBusError s a
  · exact (effects_answer s 0).trans (submit_effects h)
  · cases h; exact (effects_answer s 0).trans (effects_writeReg _ a r v)
  · cases h; exact (effects_answer s 0).trans (effects_writeElem _ a g v hl)
  · cases h; exact effects_raiseBusError s a

theorem performOp_effects {who : Agent} {op : AgentOp} {rest : List AgentOp} (h : performOp who op rest s = .next t) :
    Effects s t := by
  have hprog := effects_setProg s who rest
  obtain ⟨a, size, v, _, e⟩ | ⟨a, size, _, e⟩ | ⟨a, mask, val, _, e⟩ := performOp_cases who op rest s <;> rw [e] at h
  · exact (hprog.trans (effects_markRole _ who a size)).trans (busWrite_effects h)
  · cases h; exact hprog.trans (effects_busRead _ a size)
  · cases h
    have hread := effects_busRead s a 4
    split
    · exact hread.trans (effects_setProg _ who rest)
    · exact hread

theorem sequencerEvent_effects (h : sequencerEvent s = .next t) : Effects s t := by
  obtain ⟨_, e⟩ | ⟨i, _, _, _, e⟩ | ⟨_, e⟩ := sequencerEvent_cases s <;> rw [e] at h
  · cases h; exact effects_startCommand ..
  · exact exec_effects h
  · cases h

theorem agentEvent_effects {who : Agent} (h : agentEvent who s = .next t) : Effects s t := by
  unfold agentEvent at h
  split at h
  · exact sequencerEvent_effects h
  all_goals
    split at h
    · cases h; exact .refl
    · exact performOp_effects h

/-- A step is a chain of effects: the choice of the agent, then the agent's event. -/
theorem step_effects (h : step s = .next t) : Effects s t := by
  obtain ⟨_, who, u, hc, hev⟩ := step_cases h
  obtain ⟨_, l, n, m, rfl⟩ := chooseAgent_some hc
  exact .head (.agents l n m who _ _ _) (agentEvent_effects hev)

/-- What every effect keeps, every step keeps. -/
theorem kept_by_step {P : State → Prop} (kept : ∀ u v, Effect u v → P u → P v) (h : step s = .next t) (hs : P s) : P t := by
  have he := step_effects h
  clear h
  induction he with
  | refl => exact hs
  | tail _ he ih => exact kept _ _ he ih

/-- What every step keeps and every start of a launch from reset has, every reachable state has (R149). -/
theorem reachable_induction {P : State → Prop} (kept : ∀ u v, step u = .next v → P u → P v)
    (launch : ∀ host producer reader sched, P (State.launch host producer reader sched)) (h : Reachable s) : P s := by
  obtain ⟨host, producer, reader, sched, hr⟩ := h
  induction hr with
  | refl => exact launch host producer reader sched
  | tail _ hst ih => exact kept _ _ hst ih

end Events

/-! ### The cursors -/

/-- The invariant reads the lag only. -/
theorem CursorInv.of_lag {s t : State} (h : CursorInv s) (hl : t.lagSamples = s.lagSamples) : CursorInv t :=
  ⟨by rw [hl]; exact h.lag_multiple, by rw [hl]; exact h.lag_bounded⟩

theorem CursorInv.of_cursors {s t : State} (h : CursorInv s) (hw : t.w = s.w) (hr : t.r = s.r) : CursorInv t :=
  h.of_lag (by rw [State.lagSamples, hw, hr, State.lagSamples])

/-- With R at W nothing is available. -/
theorem cursorInv_of_eq {s : State} (h : s.r = s.w) : CursorInv s := by
  have hl : s.lagSamples = 0 := by simp [State.lagSamples, h]
  exact ⟨by rw [hl]; rfl, by rw [hl]; exact Nat.zero_le _⟩

/-- A commit adds a frame to the lag, and a full ring first gives one up (R93, R94). -/
theorem cursorInv_commit {s : State} (h : CursorInv s) : CursorInv (commitFrame (overrunCheck s)) := by
  obtain ⟨_, e⟩ | ⟨hroom, e⟩ := overrunCheck_cases s <;> rw [e]
  · exact h.of_lag (by simp [State.lagSamples])
  · have hmul := h.lag_multiple
    simp only [Config.step, Config.cap] at hmul hroom
    have hl : (commitFrame s).lagSamples = s.lagSamples + 128 := by
      simp only [State.lagSamples, commitFrame_w, commitFrame_r] at hroom ⊢
      bv_omega
    constructor
    · simp only [Config.step]; omega
    · simp only [Config.cap]; omega

theorem cursorInv_effect (s t : State) (he : Effect s t) (h : CursorInv s) : CursorInv t := by
  cases he with
  | commit => exact cursorInv_commit h
  | start => exact cursorInv_of_eq (by simp)
  | reset => exact cursorInv_of_eq rfl
  | snapshot => exact cursorInv_of_eq (by simp)
  | ctrl | irqEn | irqPend => exact h.of_cursors rfl rfl
  | _ => exact h.of_cursors (by simp) (by simp)

/-- Settles O51: the cursors are written by a commit, a SNAPSHOT, START and SRST alone. -/
theorem cursorInvariantIsKept : Obligations.CursorInvariantIsKept := by
  have hstep : ∀ s t : State, step s = .next t → CursorInv s → CursorInv t := fun s t => kept_by_step cursorInv_effect
  exact ⟨fun s t h hst => hstep s t hst h, fun s => reachable_induction hstep fun _ _ _ _ => cursorInv_of_eq rfl⟩

end Sys2Proof.Machine
end

section
/-! SUPPORT. The invariants of the registers, kept by every effect: the candidate counts, the configuration, the fault
record and the launch's marks. -/

namespace Sys2Proof.Machine

/-- The overrun check writes R, OVRCNT and IRQ_PEND only (R94). -/
theorem overrunCheck_frame (s : State) : overrunCheck s =
    { s with r := (overrunCheck s).r, ovrcnt := (overrunCheck s).ovrcnt, irqPend := (overrunCheck s).irqPend } := by
  obtain ⟨_, h⟩ | ⟨_, h⟩ := overrunCheck_cases s
  · rw [h]; rfl
  · rw [h]

/-! ### The candidate lists -/

theorem CandidateInv.of_lists {s t : State} (h : CandidateInv s) (hwc : t.wc = s.wc) (hcand : t.cand = s.cand)
    (hnc : t.wNc = s.wNc) (hbank : t.bank = s.bank) : CandidateInv t :=
  ⟨by rw [hwc]; exact h.wc_length, by rw [hcand]; exact h.cand_length, by rw [hnc]; exact h.nc_bounded,
    by rw [hbank]; exact h.ncand_bounded⟩

/-- Empty lists, as after a reset and after START (R126, R147). -/
theorem candidateInv_of_zero {s : State} (hwc : s.wc = List.replicate 16 Cand.zero)
    (hcand : s.cand = List.replicate 16 Cand.zero) (hnc : s.wNc = 0) (hbank : s.bank = Bank.zero) : CandidateInv s :=
  ⟨by rw [hwc]; rfl, by rw [hcand]; rfl, by rw [hnc]; decide, by rw [hbank]; decide⟩

/-- SOLVE emits at most MAXN ≤ 16 candidates, over the first records of WC (R115). -/
theorem candidateInv_solve {s : State} (h : CandidateInv s) : CandidateInv (solveEvent s) := by
  obtain ⟨hwc, hcand, _, hncand⟩ := h
  have hle : (solve s.lat (flt s.tRms s.lat.silence) (s.elems .wht 0 s.lat.bins)).cands.length ≤ 16 :=
    (solve_bounds ..).2.trans (Nat.le_of_lt_succ s.lat.maxn.isLt)
  refine ⟨?_, by rw [solveEvent_cand]; exact hcand, ?_, by rw [solveEvent_bank]; exact hncand⟩
  · simp only [solveEvent, List.length_append, List.length_drop, hwc]
    omega
  · simp only [solveEvent, BitVec.toNat_ofNat]
    omega

/-- PUBLISH copies W_NC and sixteen records (R120). -/
theorem candidateInv_publish {s : State} (h : CandidateInv s) : CandidateInv (publishEvent s) :=
  ⟨by rw [publishEvent_wc]; exact h.wc_length, by simp [State.published], by rw [publishEvent_wNc]; exact h.nc_bounded,
    h.nc_bounded⟩

theorem candidateInv_effect (s t : State) (he : Effect s t) (h : CandidateInv s) : CandidateInv t := by
  cases he with
  | solve => exact candidateInv_solve h
  | publish => exact candidateInv_publish h
  | start => exact candidateInv_of_zero (by simp) (by simp) (by simp) (by simp)
  | reset => exact candidateInv_of_zero rfl rfl rfl rfl
  | commit => rw [overrunCheck_frame]; exact h.of_lists rfl rfl rfl rfl
  | ctrl | irqEn | irqPend => exact h.of_lists rfl rfl rfl rfl
  | _ => exact h.of_lists (by simp) (by simp) (by simp) (by simp)

/-! ### The configuration -/

/-- The invariant says nothing of IDLE. -/
theorem configInv_of_idle {s : State} (h : s.mode = .idle) : ConfigInv s :=
  ⟨fun hm => absurd h hm, fun hm => absurd h hm⟩

/-- Inside a session no effect writes a CFG register or the latched configuration. -/
theorem ConfigInv.of_session {s t : State} (h : ConfigInv s) (hm : s.mode ≠ .idle) (hcfg : t.cfg = s.cfg)
    (hlat : t.lat = s.lat) : ConfigInv t :=
  ⟨fun _ => by rw [hcfg]; exact h.legal hm, fun _ => by rw [hcfg, hlat]; exact h.latched hm⟩

theorem ConfigInv.of_registers {s t : State} (h : ConfigInv s) (hm : t.mode = s.mode) (hcfg : t.cfg = s.cfg)
    (hlat : t.lat = s.lat) : ConfigInv t := by
  by_cases hidle : s.mode = .idle
  · exact configInv_of_idle (hm.trans hidle)
  · exact h.of_session hidle hcfg hlat

theorem configInv_effect (s t : State) (he : Effect s t) (h : ConfigInv s) : ConfigInv t := by
  cases he with
  | cfg c v hm => exact configInv_of_idle hm
  | malformed hm => exact h.of_session (by simp [hm]) rfl rfl
  | stopping hm => exact h.of_session hm rfl rfl
  | idle => exact configInv_of_idle rfl
  | start hm hf => exact ⟨fun _ => by simpa using hf, fun _ => by simp⟩
  | reset => exact configInv_of_idle rfl
  | commit => rw [overrunCheck_frame]; exact h.of_registers rfl rfl rfl
  | ctrl | irqEn | irqPend => exact h.of_registers rfl rfl rfl
  | _ => exact h.of_registers (by simp) (by simp) (by simp)

/-! ### The fault record -/

theorem FaultInv.of_record {s t : State} (h : FaultInv s) (hf : t.fault = s.fault) (hc : t.fcause = s.fcause)
    (hs : t.faultsSeen = s.faultsSeen) : FaultInv t :=
  ⟨by rw [hf, hs]; exact h.seen, by rw [hf, hc]; exact h.cause⟩

/-- An empty record is consistent with any mark. -/
theorem faultInv_of_clear {s : State} (hf : s.fault = 0) (hc : s.fcause = 0) : FaultInv s :=
  ⟨by rw [hf]; exact BitVec.zero_and, .inl hc⟩

/-- A fault sets its bit in FAULT and in the mark, and its code in FCAUSE (R132). -/
theorem faultInv_raise {s : State} (c : FaultCode) (info : Word) (h : FaultInv s) : FaultInv (raiseFault c info s) := by
  refine ⟨?_, .inr ⟨c, rfl, ?_⟩⟩
  · have hor : (s.fault ||| c.mask) &&& (s.faultsSeen ||| c.mask) = s.fault &&& s.faultsSeen ||| c.mask := by
      ext i hi
      simp [Bool.or_and_distrib_right]
    rw [raiseFault_fault, raiseFault_faultsSeen, hor, h.seen]
  · rw [raiseFault_fault]
    ext i hi
    simpa using Or.inr

theorem faultInv_effect (s t : State) (he : Effect s t) (h : FaultInv s) : FaultInv t := by
  cases he with
  | fault c info => exact faultInv_raise c info h
  | acknowledge => exact faultInv_of_clear rfl rfl
  | reset => exact faultInv_of_clear rfl rfl
  | commit => rw [overrunCheck_frame]; exact h.of_record rfl rfl rfl
  | ctrl | irqEn | irqPend => exact h.of_record rfl rfl rfl
  | _ => exact h.of_record (by simp) (by simp) (by simp)

/-! ### The launch's marks -/

/-- A fault adds to `faults_seen`, and nothing else writes it (R150). -/
theorem faultsSeen_effect (b : Nat) (s t : State) (he : Effect s t) (h : s.faultsSeen.getLsbD b = true) :
    t.faultsSeen.getLsbD b = true := by
  cases he with
  | fault c info => simp [h]
  | commit => rw [overrunCheck_frame]; exact h
  | ctrl | irqEn | irqPend | reset => exact h
  | _ => simpa using h

theorem refusedMark_effect (s t : State) (he : Effect s t) (h : s.refusedMark = true) : t.refusedMark = true := by
  cases he with
  | mark => rfl
  | commit => rw [overrunCheck_frame]; exact h
  | ctrl | irqEn | irqPend | reset => exact h
  | _ => simpa using h

/-- Settles O54: every effect keeps each invariant. -/
theorem registerInvariantsAreKept : Obligations.RegisterInvariantsAreKept := fun _ _ h =>
  ⟨kept_by_step candidateInv_effect h, kept_by_step configInv_effect h, kept_by_step faultInv_effect h,
    fun b => kept_by_step (faultsSeen_effect b) h, kept_by_step refusedMark_effect h⟩

end Sys2Proof.Machine
end

section
/-! SUPPORT. The registers on the bus: what a write to a register's own address does, and the fields of STATUS. -/

namespace Sys2Proof.Machine

/-! ### Writes to registers -/

/-- A register that is no command port stands at its own address (R69). -/
theorem busWrite_register {a : Addr} {r : Reg} (hr : regAt a.toNat = some r) (hp : ∀ p, r ≠ .port p)
    (hal : wellFormedAccess a 4 = true) (v : Word) (s : State) :
    busWrite a 4 v s = .next (writeReg a r v (answer 0 s)) := by
  have hl (l : Latched) : locate l a.toNat = .reg r := by rw [locate, hr]
  obtain ⟨hw, _⟩ | ⟨p, _, h, _⟩ | ⟨q, _, h, _, e⟩ | ⟨g, _, h, _⟩ | ⟨_, h, _⟩ := busWrite_cases a 4 v s
  · rw [hal] at hw; cases hw
  · rw [hl] at h; cases h; exact absurd rfl (hp p)
  · rw [hl] at h; cases h; exact e
  · rw [hl] at h; cases h
  · rw [hl] at h; cases h

theorem regAt_cfg (c : CfgReg) : regAt (BitVec.ofNat 18 c.addr : Addr).toNat = some (.cfg c) := by
  cases c <;> decide

theorem wellFormedAccess_cfg (c : CfgReg) : wellFormedAccess (BitVec.ofNat 18 c.addr) 4 = true := by
  cases c <;> decide

/-- A CFG register holds what was last stored in it, and the others are left alone (R34). -/
theorem cfg_get_set (f : Cfg) (v : Word) (c d : CfgReg) : (f.set v c).get d = if d = c then v else f.get d := by
  cases c <;> cases d <;> rfl

/-- In IDLE a CFG register takes the raw value (R34). -/
theorem busWrite_cfg {s : State} (c : CfgReg) (v : Word) (hm : s.mode = .idle) :
    busWrite (BitVec.ofNat 18 c.addr) 4 v s = .next { answer 0 s with cfg := s.cfg.set v c } := by
  rw [busWrite_register (regAt_cfg c) (by simp) (wellFormedAccess_cfg c)]
  exact congrArg _ (if_pos hm)

/-- Settles O13: each register is written at its own address. -/
theorem plainWritesStoreTheirValue : Obligations.PlainWritesStoreTheirValue := by
  intro s v
  refine ⟨?ctrl, ?irqEn, ?irqPend, fun c hm => ⟨_, busWrite_cfg c v hm, ?own, fun d hd => ?others, rfl⟩⟩
  case ctrl => exact busWrite_register (r := .ctrl) (by decide) (by simp) rfl v s
  case irqEn => exact busWrite_register (r := .irqEn) (by decide) (by simp) rfl v s
  case irqPend => exact busWrite_register (r := .irqPend) (by decide) (by simp) rfl v s
  case own => simp [cfg_get_set]
  case others => simp [cfg_get_set, hd]

/-! ### The fields of STATUS -/

/-- A field above the bits of a word adds to it. -/
theorem toNat_or_shiftLeft {x y : Word} {m n k : Nat} (hx : x.toNat = m) (hy : y.toNat = n) (hm : m < 2 ^ k)
    (hn : n * 2 ^ k < 2 ^ 32) : (x ||| y <<< k).toNat = m + n * 2 ^ k := by
  subst hx hy
  rw [BitVec.toNat_or, BitVec.toNat_shiftLeft, Nat.shiftLeft_eq, Nat.mod_eq_of_lt hn, ← Nat.shiftLeft_eq, Nat.lor_comm,
    ← Nat.shiftLeft_add_eq_or_of_lt hm, Nat.add_comm]

theorem toNat_bit (b : Bool) : (bit b).toNat = b.toNat := by cases b <;> rfl

/-- Each field of STATUS fits its place. -/
theorem statusFields_lt (s : State) : s.mode.code.toNat < 2 ^ 2 ∧ s.cbusy.toNat < 2 ∧ s.cwait.toNat < 2 ∧
    s.cstage.code.toNat < 2 ^ 4 ∧ s.irq.toNat < 2 ∧ s.stgCnt.toNat < 2 ^ 8 :=
  ⟨by cases s.mode <;> decide, s.cbusy.toNat_lt, s.cwait.toNat_lt, by cases s.cstage <;> decide, s.irq.toNat_lt,
    s.stgCnt.isLt⟩

/-- STATUS as the sum of its fields at their places (R23). -/
theorem toNat_statusWord (s : State) : s.statusWord.toNat =
    s.mode.code.toNat + s.cbusy.toNat * 2 ^ 2 + s.cwait.toNat * 2 ^ 3 + s.cstage.code.toNat * 2 ^ 4 +
      s.avail % 32 * 2 ^ 8 + s.irq.toNat * 2 ^ 13 + s.stgCnt.toNat * 2 ^ 16 := by
  obtain ⟨hmode, hbusy, hwait, hstage, hirq, hcnt⟩ := statusFields_lt s
  have havail : (BitVec.ofNat 32 (s.avail % 32)).toNat = s.avail % 32 := by
    rw [BitVec.toNat_ofNat]; omega
  have hcount : (s.stgCnt.zeroExtend 32).toNat = s.stgCnt.toNat := BitVec.toNat_setWidth_of_le (by decide)
  have to2 := toNat_or_shiftLeft (k := 2) rfl (toNat_bit s.cbusy) hmode (by omega)
  have to3 := toNat_or_shiftLeft (k := 3) to2 (toNat_bit s.cwait) (by omega) (by omega)
  have to4 := toNat_or_shiftLeft (k := 4) to3 (y := s.cstage.code) rfl (by omega) (by omega)
  have to8 := toNat_or_shiftLeft (k := 8) to4 havail (by omega) (by omega)
  have to13 := toNat_or_shiftLeft (k := 13) to8 (toNat_bit s.irq) (by omega) (by omega)
  exact toNat_or_shiftLeft (k := 16) to13 hcount (by omega) (by omega)

/-- A field of a word, read off its number. -/
theorem toNat_extractLsb' (v : Word) (lo n : Nat) : (v.extractLsb' lo n).toNat = v.toNat / 2 ^ lo % 2 ^ n := by
  rw [BitVec.extractLsb'_toNat, Nat.shiftRight_eq_div_pow]

theorem extractLsb'_eq_of_div_mod {v : Word} {lo n : Nat} {x : BitVec n} (h : v.toNat / 2 ^ lo % 2 ^ n = x.toNat) :
    v.extractLsb' lo n = x :=
  BitVec.eq_of_toNat_eq ((toNat_extractLsb' v lo n).trans h)

theorem getLsbD_eq_of_div_mod {v : Word} {i : Nat} {b : Bool} (h : v.toNat / 2 ^ i % 2 = b.toNat) : v.getLsbD i = b := by
  rw [BitVec.getLsbD, Nat.testBit_eq_decide_div_mod_eq, h]
  cases b <;> rfl

/-- By R27 at most sixteen steps are available. -/
theorem avail_le {s : State} (h : CursorInv s) : s.avail ≤ 16 := by
  have hle := h.lag_bounded
  simp only [State.avail, Config.step, Config.cap] at hle ⊢
  omega

/-- Settles O14: the fields are the digits of STATUS as a number, and each of them is below the next one's place. -/
theorem statusShowsItsFields : Obligations.StatusShowsItsFields := by
  refine ⟨by decide, fun s h => ?_⟩
  have hsum := toNat_statusWord s
  obtain ⟨hmode, hbusy, hwait, hstage, hirq, hcnt⟩ := statusFields_lt s
  have havail := avail_le h
  refine ⟨?location, ?mode, ?busy, ?wait, ?stage, ?avail, havail, ?irq, ?low, ?count, ?high⟩
  case location => rfl
  case mode =>
    rw [toNat_extractLsb', show s.statusWord.toNat / 2 ^ 0 % 2 ^ 2 = s.mode.code.toNat by omega]
    cases s.mode <;> rfl
  case busy => exact getLsbD_eq_of_div_mod (by omega)
  case wait => exact getLsbD_eq_of_div_mod (by omega)
  case stage =>
    rw [toNat_extractLsb', show s.statusWord.toNat / 2 ^ 4 % 2 ^ 4 = s.cstage.code.toNat by omega]
    cases s.cstage <;> rfl
  case avail =>
    rw [toNat_extractLsb', show s.statusWord.toNat / 2 ^ 8 % 2 ^ 5 = s.avail by omega]
    rfl
  case irq => exact getLsbD_eq_of_div_mod (b := s.irq) (by omega)
  case low => exact extractLsb'_eq_of_div_mod (by change _ = 0; omega)
  case count => exact extractLsb'_eq_of_div_mod (by omega)
  case high => exact extractLsb'_eq_of_div_mod (by change _ = 0; omega)

end Sys2Proof.Machine
end

section
/-! SUPPORT. The canonical form of the memories, kept by every effect: a write of words puts cells only where it stores, and
every effect stores inside its array (R69). -/

namespace Sys2Proof.Machine

/-- Canonical form, with every cell at `lo … hi-1`. -/
def Memory.FormIn (lo hi : Nat) (m : Memory) : Prop := m.wf ∧ ∀ c ∈ m.cells, lo ≤ c.1 ∧ c.1 < hi

theorem memoryInv_iff (s : State) : MemoryInv s ↔ s.mem.FormIn 0x10000 0x40000 ∧ s.stg.FormIn 0 (4 * Config.step) :=
  ⟨fun ⟨hm, hs, hmw, hsw⟩ => ⟨⟨hm, hmw⟩, hs, fun c hc => ⟨Nat.zero_le _, hsw c hc⟩⟩,
    fun ⟨⟨hm, hmw⟩, hs, hsw⟩ => ⟨hm, hs, hmw, fun c hc => (hsw c hc).2⟩⟩

/-- A cell after a write of words was there before, or is one of the bytes stored. -/
theorem Memory.mem_cells_writeWords {m : Memory} {a : Nat} {ws : List Word} {c : Host.Cell}
    (h : c ∈ (m.writeWords a ws).cells) : c ∈ m.cells ∨ (a ≤ c.1 ∧ c.1 < a + 4 * ws.length) := by
  simp only [Memory.writeWords, Memory.writeBytes, List.mem_append] at h
  obtain (h | h) | h := h
  · exact .inl ((List.takeWhile_sublist _).subset h)
  · obtain ⟨hlo, hhi, _⟩ := mem_byteCells h
    exact .inr ⟨hlo, by rwa [length_flatMap_bytesOfWord] at hhi⟩
  · exact .inl (mem_seek h)

/-- A write of words inside the addresses keeps the form. -/
theorem Memory.FormIn.writeWords {lo hi : Nat} {m : Memory} (h : m.FormIn lo hi) {a : Nat} (ws : List Word) (hlo : lo ≤ a)
    (hhi : a + 4 * ws.length ≤ hi) : (m.writeWords a ws).FormIn lo hi := by
  refine ⟨Memory.writeWords_wf h.1 a ws, fun c hc => ?_⟩
  obtain hc | hc := Memory.mem_cells_writeWords hc
  · exact h.2 c hc
  · omega

/-- A memory without cells has the form. -/
theorem Memory.formIn_of_no_cells {lo hi : Nat} (fill : Fill) : Memory.FormIn lo hi ⟨fill, []⟩ :=
  ⟨⟨.nil, by simp⟩, by simp⟩

/-! ### How far the arrays reach -/

theorem Latched.alenN_le (l : Latched) : l.alenN ≤ 2048 := by rw [Latched.alenN]; cases l.alen <;> decide

theorem Latched.nfftN_le (l : Latched) : l.nfftN ≤ 4096 := by rw [Latched.nfftN]; cases l.nfft <;> decide

theorem Latched.bins_le (l : Latched) : l.bins ≤ 2049 := by
  have := l.nfftN_le
  rw [Latched.bins]; omega

/-- The bases of the arrays are 4096 words apart, from 0x10000 on (R69). -/
theorem Region.base_bounds (g : Region) : 0x10000 ≤ g.base ∧ g.base ≤ 0x30000 := by cases g <;> decide

/-- No array is longer than the room to the next base (R69). -/
theorem Region.bound_le (l : Latched) (g : Region) : g.bound l ≤ 4096 := by
  have := l.alenN_le
  have := l.nfftN_le
  have := l.bins_le
  cases g <;> simp only [Region.bound, Config.cap, Config.winLen] <;> omega

/-- Words stored in the room of an array keep the form of the arrays' memory. -/
theorem Memory.FormIn.setElems {m : Memory} (h : m.FormIn 0x10000 0x40000) (g : Region) (i : Nat) {ws : List Word}
    (hi : i + ws.length ≤ 4096) : (m.writeWords (g.addr i) ws).FormIn 0x10000 0x40000 := by
  have := g.base_bounds
  exact h.writeWords ws (by rw [Region.addr]; omega) (by rw [Region.addr]; omega)

/-- A word stored where the map has an array keeps the form of the arrays' memory. -/
theorem Memory.FormIn.writeWord_at_elem {m : Memory} (h : m.FormIn 0x10000 0x40000) {l : Latched} {a : Nat} {g : Region}
    (ha : locate l a = .elem g) (v : Word) : (m.writeWord a v).FormIn 0x10000 0x40000 := by
  have hin : g.base ≤ a ∧ a < g.base + 4 * g.bound l := by
    unfold locate at ha
    split at ha
    · cases ha
    · split at ha <;> cases ha
      next hg => simpa using List.find?_some hg
  have := g.base_bounds
  have := g.bound_le l
  exact h.writeWords [v] (by omega) (by simp only [List.length_singleton]; omega)

@[simp] theorem length_elems (s : State) (g : Region) (i n : Nat) : (s.elems g i n).length = n :=
  Memory.length_readWords ..

theorem length_cosRun (c1 : Int) (n : Nat) (a b : Int) : (cosRun c1 n a b).length = n := by
  induction n generalizing a b with
  | zero => rfl
  | succ n ih => rw [cosRun, List.length_cons, ih]

theorem length_windowTable_le (k : WKind) (len : Nat) : (windowTable k len).length ≤ len := by
  simp only [windowTable, windowHalf, List.length_append, List.length_reverse, List.length_map, length_cosRun]
  omega

/-! ### The effects -/

/-- Most effects leave both memories alone. -/
theorem MemoryInv.of_memories {s t : State} (h : MemoryInv s) (hm : t.mem = s.mem) (hs : t.stg = s.stg) : MemoryInv t := by
  rw [memoryInv_iff, hm, hs]
  exact (memoryInv_iff s).mp h

/-- An effect that stores words in one array. -/
theorem MemoryInv.of_setElems {s t : State} (h : MemoryInv s) {g : Region} {i : Nat} {ws : List Word}
    (hm : t.mem = (s.setElems g i ws).mem) (hs : t.stg = s.stg) (hi : i + ws.length ≤ 4096) : MemoryInv t := by
  obtain ⟨hmem, hstg⟩ := (memoryInv_iff s).mp h
  exact (memoryInv_iff t).mpr ⟨by rw [hm]; exact hmem.setElems g i hi, by rw [hs]; exact hstg⟩

/-- A sample is staged below the 512 bytes of STG (R92). -/
theorem memoryInv_stageSample {s : State} (h : MemoryInv s) (v : Word) : MemoryInv (stageSample v s) := by
  obtain ⟨hmem, hstg⟩ := (memoryInv_iff s).mp h
  refine (memoryInv_iff _).mpr ⟨hmem, ?_⟩
  rw [stageSample_stg]
  split
  · next hroom => exact hstg.writeWords [v] (Nat.zero_le _) (by simp only [List.length_singleton]; omega)
  · exact hstg

/-- A frame is stored in RING up to its end, and the rest of it from RING's start on (R93). -/
theorem memoryInv_commitFrame {s : State} (h : MemoryInv s) : MemoryInv (commitFrame s) := by
  have hstart : s.w.toNat % Config.cap < 2048 := Nat.mod_lt _ (by decide)
  have hframe : s.stagedFrame.length = 128 := Memory.length_readWords ..
  refine MemoryInv.of_setElems (h.of_setElems (t := s.setElems .ring (s.w.toNat % Config.cap) _) rfl rfl ?_) rfl rfl ?_
  · simp only [List.length_take, Config.cap] at *; omega
  · simp only [List.length_drop, Config.cap] at *; omega

/-- START lays out WCOEF over zeros (R126). -/
theorem memoryInv_startInit {s : State} (h : MemoryInv s) (l : Latched) : MemoryInv (startInit l s) := by
  obtain ⟨_, hstg⟩ := (memoryInv_iff s).mp h
  refine (memoryInv_iff _).mpr ⟨?_, by rwa [startInit_stg]⟩
  rw [startInit_mem]
  have hlen := (length_windowTable_le l.wkind l.alenN).trans l.alenN_le
  exact (Memory.formIn_of_no_cells .zero).setElems .wcoef 0 (by omega)

/-- FFT stores both spectra (R102). -/
theorem memoryInv_fftEvent {s : State} (h : MemoryInv s) : MemoryInv (fftEvent s) := by
  have hlen : (fftImpl s.lat.nfftN (s.elems .pad 0 s.lat.nfftN)).length ≤ 2049 := by
    rw [fftImpl, List.length_map, List.length_range]
    exact s.lat.bins_le
  refine MemoryInv.of_setElems (h.of_setElems (t := s.setElems .xre 0 _) rfl rfl ?_) (by unfold fftEvent; rfl) (by simp) ?_ <;>
    · rw [List.length_map]; omega

/-- SNAPSHOT fills WIN (R96). -/
theorem length_ringWindow (s : State) : s.ringWindow.length = 2048 := by
  have := Nat.mod_lt s.w.toNat (show 0 < Config.cap by decide)
  simp only [State.ringWindow, List.length_append, length_elems, Config.cap] at *
  omega

/-- Every effect keeps the form: each that stores words stores them in the room of one array, or in STG. -/
theorem memoryInv_effect (s t : State) (he : Effect s t) (h : MemoryInv s) : MemoryInv t := by
  have hbins := s.lat.bins_le
  have halen := s.lat.alenN_le
  have hnfft := s.lat.nfftN_le
  cases he with
  | elem a g v hl =>
    obtain ⟨hmem, hstg⟩ := (memoryInv_iff s).mp h
    exact (memoryInv_iff _).mpr ⟨hmem.writeWord_at_elem hl v, hstg⟩
  | sample v => exact memoryInv_stageSample h v
  | commit => rw [overrunCheck_frame]; exact memoryInv_commitFrame (h.of_memories rfl rfl)
  | start => exact (memoryInv_startInit h _).of_memories rfl rfl
  | reset => exact (memoryInv_iff _).mpr ⟨Memory.formIn_of_no_cells _, Memory.formIn_of_no_cells _⟩
  | snapshot => exact h.of_setElems (takeSnapshot_mem s) rfl (by rw [length_ringWindow]; omega)
  | window => exact h.of_setElems (windowEvent_mem s) (by simp) (by simp; omega)
  | zeropad => exact h.of_setElems (zeropadEvent_mem s) (by simp) (by simp; omega)
  | fft => exact memoryInv_fftEvent h
  | mag => exact h.of_setElems (magEvent_mem s) (by simp) (by simp; omega)
  | whiten => exact h.of_setElems (g := .wht) (i := 0) (by unfold whitenEvent; rfl) (by simp) (by simp; omega)
  | solve =>
    exact h.of_setElems (g := .scr) (i := 0) (by unfold solveEvent; rfl) (by simp)
      (by rw [(solve_bounds ..).1, length_elems]; omega)
  | ctrl | irqEn | irqPend => exact h.of_memories rfl rfl
  | _ => exact h.of_memories (by simp) (by simp)

/-- Settles O53: every effect keeps the form. -/
theorem memoryFormIsKept : Obligations.MemoryFormIsKept := fun _ _ h hst => kept_by_step memoryInv_effect hst h

end Sys2Proof.Machine
end

section
/-! SUPPORT. The address map (R69): the rights at an address are those of the location it leads to, so a refused access is
one that the bus refuses, and each address of the map leads to its own register or element. -/

namespace Sys2Proof.Machine

/-! ### Rights and locations -/

/-- The rights of a register (R69). -/
@[simp] def Reg.rights : Reg → Rights
  | .port _ | .pdata => .wo
  | .ctrl | .irqEn => .rw
  | .irqPend => .rw1c
  | .cfg _ => .rwi
  | _ => .ro

/-- The rights of an array (R69, R73). -/
def Region.rights (g : Region) : Rights := if g.rwa then .rwa else .ro

/-- The rights of a location (R69). -/
@[simp] def Location.rights : Location → Option Rights
  | .reg r => some r.rights
  | .elem g => some g.rights
  | .unassigned => none

/-- The row of the map that an address lies in. -/
abbrev inRow (a : Nat) (row : Nat × Nat × Rights) : Bool := decide (row.1 ≤ a ∧ a < row.2.1)

/-- The rows of the registers, which no configuration moves. -/
def registerRows : List (Nat × Nat × Rights) := (mapRows Latched.default).take 11

theorem mapRows_eq (l : Latched) : mapRows l =
    registerRows ++ Region.all.map fun g => (g.base, g.base + 4 * g.bound l, g.rights) := rfl

/-- The registers end below 0x240 (R69). -/
theorem regAt_eq_none {a : Nat} (h : 0x240 ≤ a) : regAt a = none := by
  have hregs : ∀ e ∈ regMap, e.1 < 0x240 := by decide
  rw [regAt, Option.map_eq_none_iff, List.find?_eq_none]
  intro e he
  have := hregs e he
  simp only [beq_iff_eq]; omega

/-- Below the registers' end the rows and the register map agree at every word; above it neither has anything. -/
theorem registerRows_eq_regAt {a : Nat} (h : a % 4 = 0) :
    (registerRows.find? (inRow a)).map (fun row => row.2.2) = (regAt a).map Reg.rights := by
  by_cases hlow : a < 0x240
  · have words : ∀ k < 144,
        (registerRows.find? (inRow (4 * k))).map (fun row => row.2.2) = (regAt (4 * k)).map Reg.rights := by decide +kernel
    rw [show a = 4 * (a / 4) by omega]
    exact words (a / 4) (by omega)
  · have hrows : ∀ row ∈ registerRows, row.2.1 ≤ 0x240 := by decide
    have hnorow : registerRows.find? (inRow a) = none := by
      rw [List.find?_eq_none]
      intro row hrow
      have := hrows row hrow
      simp only [decide_eq_true_eq]; omega
    rw [hnorow, regAt_eq_none (by omega)]; rfl

/-- The rows of the arrays are the arrays themselves (R69). -/
theorem arrayRows_eq_regionAt (l : Latched) (a : Nat) :
    ((Region.all.map fun g => (g.base, g.base + 4 * g.bound l, g.rights)).find? (inRow a)).map (fun row => row.2.2) =
      (regionAt l a).map Region.rights := by
  rw [List.find?_map, Option.map_map]; rfl

/-- The rights at a word are those of its location (R69). -/
theorem rightsAt_eq (l : Latched) {a : Nat} (h : a % 4 = 0) : rightsAt l a = (locate l a).rights := by
  rw [rightsAt, mapRows_eq, List.find?_append, Option.map_or, registerRows_eq_regAt h, arrayRows_eq_regionAt, locate]
  cases regAt a with
  | some r => rfl
  | none => cases regionAt l a <;> rfl

/-! ### Where the arrays are -/

/-- The room of an array is its own (R69). -/
theorem Region.eq_of_room {g g' : Region} {a : Nat} (h : g.base ≤ a ∧ a < g.base + 0x4000)
    (h' : g'.base ≤ a ∧ a < g'.base + 0x4000) : g = g' := by
  cases g <;> cases g' <;> simp only [Region.base, reduceCtorEq] at h h' ⊢ <;> omega

theorem regionAt_iff (l : Latched) (a : Nat) (g : Region) :
    regionAt l a = some g ↔ g.base ≤ a ∧ a < g.base + 4 * g.bound l := by
  have found {g : Region} (h : regionAt l a = some g) : g.base ≤ a ∧ a < g.base + 4 * g.bound l := by
    simpa using List.find?_some h
  refine ⟨found, fun h => ?_⟩
  obtain ⟨g', hg'⟩ : ∃ g', regionAt l a = some g' := by
    rw [← Option.isSome_iff_exists, regionAt, List.find?_isSome]
    exact ⟨g, by cases g <;> decide, by simpa using h⟩
  have := g.bound_le l
  have := g'.bound_le l
  have := found hg'
  rw [hg', Region.eq_of_room (g := g') (g' := g) (a := a) (by omega) (by omega)]

theorem locate_elem_iff (l : Latched) (a : Nat) (g : Region) :
    locate l a = .elem g ↔ g.base ≤ a ∧ a < g.base + 4 * g.bound l := by
  rw [← regionAt_iff, locate]
  refine ⟨fun h => ?_, fun h => ?_⟩
  · split at h
    · cases h
    · split at h <;> cases h
      assumption
  · have := ((regionAt_iff l a g).mp h).1
    have := g.base_bounds
    rw [regAt_eq_none (by omega), h]

theorem regAt_of_locate {l : Latched} {a : Nat} {r : Reg} (h : locate l a = .reg r) : regAt a = some r := by
  unfold locate at h
  split at h
  · cases h; assumption
  · split at h <;> cases h

/-- An element below the bound stands at its address (R69). -/
theorem locate_addr {l : Latched} {g : Region} {i : Nat} (h : i < g.bound l) : locate l (g.addr i) = .elem g := by
  rw [locate_elem_iff, Region.addr]
  omega

/-- The address of an element as an address of the bus. -/
theorem toNat_addr {l : Latched} {g : Region} {i : Nat} (h : i < g.bound l) :
    (BitVec.ofNat 18 (g.addr i)).toNat = g.addr i := by
  have := g.base_bounds
  have := g.bound_le l
  rw [BitVec.toNat_ofNat, Region.addr]
  omega

theorem Region.base_mod_four (g : Region) : g.base % 4 = 0 := by cases g <;> rfl

theorem wellFormedAccess_addr {l : Latched} {g : Region} {i : Nat} (h : i < g.bound l) :
    wellFormedAccess (BitVec.ofNat 18 (g.addr i)) 4 = true := by
  have := g.base_mod_four
  rw [wellFormedAccess, toNat_addr h, Region.addr]
  simp only [beq_self_eq_true, Bool.true_and, beq_iff_eq]
  omega

theorem wellFormedAccess_iff (a : Addr) (size : Nat) : wellFormedAccess a size = true ↔ size = 4 ∧ a.toNat % 4 = 0 := by
  simp [wellFormedAccess]

/-! ### Refused accesses -/

/-- A write to the location is refused (R72 b to e, R73). -/
def State.refusesWrite (s : State) (x : Location) : Prop :=
  x.rights = none ∨ x.rights = some .ro ∨ (x.rights = some .rwi ∧ s.mode ≠ .idle) ∨
    (x.rights = some .rwa ∧ ¬((s.mode = .idle ∨ s.mode = .running) ∧ s.cbusy = false))

theorem readRefused_iff (s : State) (a : Addr) (size : Nat) :
    ReadRefused s a size ↔ wellFormedAccess a size = false ∨ (locate s.lat a.toNat).rights = none := by
  rw [← Bool.not_eq_true, wellFormedAccess_iff]
  by_cases ha : a.toNat % 4 = 0
  · simp [ReadRefused, ha, rightsAt_eq]
  · simp [ReadRefused, ha]

theorem rightsAt_of_not_refused {s : State} {a : Addr} {size : Nat} (h : ¬ ReadRefused s a size) :
    rightsAt s.lat a.toNat = (locate s.lat a.toNat).rights := by
  refine rightsAt_eq _ ?_
  by_contra hal
  exact h (.inr (.inl hal))

theorem writeRefused_iff (s : State) (a : Addr) (size : Nat) :
    WriteRefused s a size ↔ wellFormedAccess a size = false ∨ s.refusesWrite (locate s.lat a.toNat) := by
  rw [← Bool.not_eq_true, wellFormedAccess_iff]
  by_cases ha : a.toNat % 4 = 0
  · simp [WriteRefused, ReadRefused, State.refusesWrite, ha, rightsAt_eq, or_assoc]
  · simp [WriteRefused, ReadRefused, ha]

theorem readLocation_reg {s : State} {a : Addr} {r : Reg} (h : locate s.lat a.toNat = .reg r) :
    s.readLocation a = some (s.readReg r) := by rw [State.readLocation, h]

theorem readLocation_elem {s : State} {a : Addr} {g : Region} (h : locate s.lat a.toNat = .elem g) :
    s.readLocation a = some (s.mem.readWord a.toNat) := by rw [State.readLocation, h]

theorem readLocation_eq_none (s : State) (a : Addr) :
    s.readLocation a = none ↔ (locate s.lat a.toNat).rights = none := by
  rw [State.readLocation]
  cases locate s.lat a.toNat <;> simp

theorem busRead_refused {s : State} {a : Addr} {size : Nat} (h : ReadRefused s a size) :
    busRead a size s = raiseBusError a s := by
  rw [readRefused_iff, ← readLocation_eq_none] at h
  obtain ⟨v, hw, hv, _⟩ | ⟨_, e⟩ := busRead_cases a size s
  · simp [hw, hv] at h
  · exact e

theorem busRead_not_refused {s : State} {a : Addr} {size : Nat} (h : ¬ ReadRefused s a size) :
    ∃ v, s.readLocation a = some v ∧ busRead a size s = answer v s := by
  rw [readRefused_iff, ← readLocation_eq_none] at h
  obtain ⟨v, _, hv, e⟩ | ⟨hr, _⟩ := busRead_cases a size s
  · exact ⟨v, hv, e⟩
  · exact absurd hr h

theorem arrayWritable_iff (s : State) :
    s.arrayWritable = true ↔ (s.mode = .idle ∨ s.mode = .running) ∧ s.cbusy = false := by
  simp [State.arrayWritable]

theorem writeReg_refused {s : State} {r : Reg} (h : s.refusesWrite (.reg r)) (a : Addr) (v : Word) :
    writeReg a r v s = raiseBusError a s := by
  cases r with
  | ctrl | irqEn | irqPend | pdata | port => simp [State.refusesWrite] at h
  | cfg c =>
    have hm : s.mode ≠ .idle := by simpa [State.refusesWrite] using h
    exact if_neg hm
  | _ => rfl

/-- An accepted write to a register records no fault (R72). -/
theorem writeReg_accepted {s : State} {r : Reg} (hp : ∀ p, r ≠ .port p) (h : ¬ s.refusesWrite (.reg r)) (a : Addr)
    (v : Word) : (writeReg a r v s).busError = s.busError ∧ (writeReg a r v s).fault = s.fault := by
  cases r with
  | ctrl | irqEn | irqPend | pdata => exact ⟨rfl, rfl⟩
  | port p => exact absurd rfl (hp p)
  | cfg c =>
    have hm : s.mode = .idle := by simpa [State.refusesWrite] using h
    rw [writeReg, writeCfg, if_pos hm]
    exact ⟨rfl, rfl⟩
  | _ => simp [State.refusesWrite] at h

theorem refusesWrite_elem_iff (s : State) (g : Region) :
    s.refusesWrite (.elem g) ↔ (g.rwa && s.arrayWritable) = false := by
  rw [← Bool.not_eq_true, Bool.and_eq_true, arrayWritable_iff]
  cases hg : g.rwa <;> simp [State.refusesWrite, Region.rights, hg]

theorem writeElem_refused {s : State} {g : Region} (h : s.refusesWrite (.elem g)) (a : Addr) (v : Word) :
    writeElem a g v s = raiseBusError a s := by
  rw [refusesWrite_elem_iff] at h
  rw [writeElem, h]; rfl

/-- A write to an array is performed unless it is refused (R73). -/
theorem writeElem_accepted {s : State} {g : Region} (h : ¬ s.refusesWrite (.elem g)) (a : Addr) (v : Word) :
    writeElem a g v s = { s with mem := s.mem.writeWord a.toNat v } := by
  rw [refusesWrite_elem_iff, Bool.not_eq_false] at h
  rw [writeElem, h]; rfl

theorem busWrite_refused {s : State} {a : Addr} {size : Nat} (h : WriteRefused s a size) (v : Word) :
    busWrite a size v s = .next (raiseBusError a s) := by
  rw [writeRefused_iff] at h
  obtain ⟨_, e⟩ | ⟨p, hw, hl, _⟩ | ⟨r, hw, hl, _, e⟩ | ⟨g, hw, hl, e⟩ | ⟨_, _, e⟩ := busWrite_cases a size v s
  · exact e
  · simp [hw, hl, State.refusesWrite] at h
  · have hr : s.refusesWrite (.reg r) := by simpa [hw, hl] using h
    rw [e, writeReg_refused (s := answer 0 s) hr]; rfl
  · have hg : s.refusesWrite (.elem g) := by simpa [hw, hl] using h
    rw [e, writeElem_refused (s := answer 0 s) hg]; rfl
  · exact e

/-- An accepted write outside the ports is answered without an error and records no fault (R72, log 8). -/
theorem busWrite_not_refused {s : State} {a : Addr} {size : Nat} (h : ¬ WriteRefused s a size)
    (hp : ∀ p, locate s.lat a.toNat ≠ .reg (.port p)) (v : Word) :
    ∃ t, busWrite a size v s = .next t ∧ t.busError = false ∧ t.fault = s.fault := by
  rw [writeRefused_iff, not_or] at h
  obtain ⟨hok, hacc⟩ := h
  obtain ⟨hw, _⟩ | ⟨p, _, hl, _⟩ | ⟨r, _, hl, hr, e⟩ | ⟨g, _, hl, e⟩ | ⟨_, hl, _⟩ := busWrite_cases a size v s
  · exact absurd hw hok
  · exact absurd hl (hp p)
  · exact ⟨_, e, writeReg_accepted (s := answer 0 s) hr (hl ▸ hacc) a v⟩
  · rw [writeElem_accepted (s := answer 0 s) (hl ▸ hacc)] at e
    exact ⟨_, e, rfl, rfl⟩
  · exact absurd (by rw [hl]; exact .inl rfl) hacc

/-- A write-only port reads 0 (R75). -/
theorem readLocation_of_writeOnly {s : State} {a : Addr} (h : (locate s.lat a.toNat).rights = some .wo) :
    s.readLocation a = some 0 := by
  cases hl : locate s.lat a.toNat with
  | reg r =>
    rw [hl] at h
    rw [readLocation_reg hl]
    cases r with
    | port | pdata => rfl
    | _ => cases h
  | elem g => rw [hl] at h; cases g <;> cases h
  | unassigned => rw [hl] at h; cases h

/-- Settles O10: the rights of the map are those of the locations, and each location refuses what they forbid. -/
theorem refusedAccessesAreOnlyRecorded : Obligations.RefusedAccessesAreOnlyRecorded := by
  intro s a size v
  refine ⟨?readRefused, ?readAnswered, ?writeRefused, ?writeAccepted⟩
  case readRefused => exact busRead_refused
  case readAnswered =>
    intro h
    obtain ⟨w, hw, e⟩ := busRead_not_refused h
    rw [e]
    refine ⟨rfl, rfl, fun hwo => ?_⟩
    rw [rightsAt_of_not_refused h] at hwo
    simpa [readLocation_of_writeOnly hwo] using hw.symm
  case writeRefused => exact fun h => ⟨0, busWrite_refused h v⟩
  case writeAccepted =>
    intro h hwo
    refine busWrite_not_refused h (fun p hl => hwo ?_) v
    rw [rightsAt_of_not_refused fun hr => h (.inl hr), hl]; rfl

end Sys2Proof.Machine
end

section
/-! SUPPORT. Reads of the map's own addresses, and writes of array elements (R69, R73, R75). -/

namespace Sys2Proof.Machine

/-! ### Reads -/

/-- A location that is read is an element of an array below its bound, or a register of the map. -/
theorem readLocation_some {s : State} {a : Addr} {v : Word} (hal : a.toNat % 4 = 0) (h : s.readLocation a = some v) :
    (∃ g i, i < Region.bound s.lat g ∧ a.toNat = g.addr i ∧ v = s.elem g i) ∨
      ∃ r, (a.toNat, r) ∈ regMap ∧ v = s.readReg r := by
  cases hl : locate s.lat a.toNat with
  | reg r =>
    rw [readLocation_reg hl, Option.some.injEq] at h
    exact .inr ⟨r, mem_regMap_of_regAt (regAt_of_locate hl), h.symm⟩
  | elem g =>
    rw [readLocation_elem hl, Option.some.injEq] at h
    have hin := (locate_elem_iff ..).mp hl
    have := g.base_mod_four
    have haddr : a.toNat = g.addr ((a.toNat - g.base) / 4) := by rw [Region.addr]; omega
    exact .inl ⟨g, (a.toNat - g.base) / 4, by omega, haddr, by rw [State.elem, ← haddr, h]⟩
  | unassigned => rw [(readLocation_eq_none ..).mpr (by rw [hl]; rfl)] at h; cases h

/-- No register shows the bus's answer. -/
@[simp] theorem answer_readReg (data : Word) (s : State) (r : Reg) : (answer data s).readReg r = s.readReg r := by
  cases r <;> rfl

@[simp] theorem answer_readLocation (data : Word) (s : State) (a : Addr) :
    (answer data s).readLocation a = s.readLocation a := by
  simp only [State.readLocation, answer_lat, answer_readReg, answer_mem]

/-- An assigned word is answered with what it holds (R75). -/
theorem busRead_of_readLocation {s : State} {a : Addr} {v : Word} (hal : wellFormedAccess a 4 = true)
    (h : s.readLocation a = some v) : busRead a 4 s = answer v s := by
  obtain ⟨w, _, hw, e⟩ | ⟨hr, _⟩ := busRead_cases a 4 s
  · rw [h, Option.some.injEq] at hw; rw [e, hw]
  · simp [hal, h] at hr

/-! ### What each address shows -/

/-- The register map has one register at each of its addresses, all of them words of the window (R69). -/
theorem regAt_of_mem {e : Nat × Reg} (h : e ∈ regMap) : regAt e.1 = some e.2 ∧ e.1 % 4 = 0 ∧ e.1 < 2 ^ 18 := by
  have all : ∀ e ∈ regMap, regAt e.1 = some e.2 ∧ e.1 % 4 = 0 ∧ e.1 < 2 ^ 18 := by decide +kernel
  exact all e h

/-- A read of a register's address answers with the register. -/
theorem busRead_register {a : Nat} {r : Reg} (h : (a, r) ∈ regMap) (s : State) :
    busRead (BitVec.ofNat 18 a) 4 s = answer (s.readReg r) s := by
  obtain ⟨hr, hal, hlt⟩ := regAt_of_mem h
  have ha : (BitVec.ofNat 18 a).toNat = a := by rw [BitVec.toNat_ofNat, Nat.mod_eq_of_lt hlt]
  refine busRead_of_readLocation ((wellFormedAccess_iff ..).mpr ⟨rfl, by rw [ha]; exact hal⟩) (readLocation_reg ?_)
  rw [ha, locate, hr]

/-- A part of the map, with what the bus shows at each of its addresses. -/
def State.shown (s : State) (part : List (Nat × Reg)) : List (Addr × Word) :=
  part.map fun e => (BitVec.ofNat 18 e.1, s.readReg e.2)

theorem busRead_shown (s : State) {part : List (Nat × Reg)} (hsub : part ⊆ regMap) :
    ∀ e ∈ s.shown part, busRead e.1 4 s = answer e.2 s := by
  intro e he
  obtain ⟨e, hmem, rfl⟩ := List.mem_map.mp he
  exact busRead_register (hsub hmem) s

/-- A flag word is the sum of its bits (R52). -/
theorem flagsWord_eq (f : TFlags) : f.word =
    (if f.tdet then 1 else 0) + (if f.gated then 2 else 0) + (if f.capped then (4 : Word) else 0) := by
  obtain ⟨tdet, gated, capped⟩ := f
  cases tdet <;> cases gated <;> cases capped <;> rfl

/-- The four words of candidate slot `i` (R55). -/
theorem mem_regMap_cand {i : Nat} (h : i < 16) :
    (0x140 + 16 * i, Reg.cand i .note) ∈ regMap ∧ (0x144 + 16 * i, Reg.cand i .bin) ∈ regMap ∧
      (0x148 + 16 * i, Reg.cand i .freq) ∈ regMap ∧ (0x14C + 16 * i, Reg.cand i .mag) ∈ regMap := by
  have hslot : ∀ e ∈ [(0x140 + 16 * i, Reg.cand i .note), (0x144 + 16 * i, .cand i .bin), (0x148 + 16 * i, .cand i .freq),
      (0x14C + 16 * i, .cand i .mag)], e ∈ regMap :=
    fun _ he => List.mem_append_right _ (List.mem_flatMap.mpr ⟨i, List.mem_range.mpr h, he⟩)
  simpa using hslot

/-- A read of an element's address answers with the element. -/
theorem busRead_elem {s : State} {g : Region} {i : Nat} (h : i < g.bound s.lat) :
    busRead (BitVec.ofNat 18 (g.addr i)) 4 s = answer (s.elem g i) s := by
  have ha := toNat_addr h
  refine busRead_of_readLocation (wellFormedAccess_addr h) ?_
  rw [readLocation_elem (by rw [ha]; exact locate_addr h), ha, State.elem]

/-- Settles O11: a read answers with its location, and each part of the map is shown at its own addresses. -/
theorem readsHaveNoSideEffects : Obligations.ReadsHaveNoSideEffects := by
  refine ⟨fun s a h => ?answers, fun s => ?_⟩
  case answers =>
    have hal : a.toNat % 4 = 0 := by by_contra hal; exact h (.inr (.inl hal))
    obtain ⟨v, hv, e⟩ := busRead_not_refused h
    refine ⟨⟨v, e, readLocation_some hal hv⟩, ?_⟩
    have hwf : wellFormedAccess a 4 = true := (wellFormedAccess_iff ..).mpr ⟨rfl, hal⟩
    rw [e, busRead_of_readLocation hwf ((answer_readLocation ..).trans hv)]; rfl
  simp only [← flagsWord_eq]
  refine ⟨?control, ?config, ?datapath, ?bank, fun i hi => ?cand, fun g i hi => ?elem⟩
  case control => exact busRead_shown s (part := controlMap) (by decide)
  case config => exact busRead_shown s (part := cfgMap) (by decide)
  case datapath => exact busRead_shown s (part := datapathMap) (by decide)
  case bank => exact busRead_shown s (part := bankMap) (by decide)
  case cand =>
    obtain ⟨hnote, hbin, hfreq, hmag⟩ := mem_regMap_cand hi
    exact ⟨busRead_register hnote s, busRead_register hbin s, busRead_register hfreq s, busRead_register hmag s⟩
  case elem =>
    have e := busRead_elem hi
    cases g <;> exact e

/-! ### Writes of array elements -/

/-- Settles O12: an element is written at its own address, or the write is refused. -/
theorem arrayWritesFollowTheirRule : Obligations.ArrayWritesFollowTheirRule := by
  intro s g i v hg hi
  have ha := toNat_addr hi
  have hl : locate s.lat (BitVec.ofNat 18 (g.addr i)).toNat = .elem g := by rw [ha]; exact locate_addr hi
  have hw : busWrite (BitVec.ofNat 18 (g.addr i)) 4 v s = .next (writeElem (BitVec.ofNat 18 (g.addr i)) g v (answer 0 s)) := by
    rw [busWrite, if_pos (wellFormedAccess_addr hi), hl]
  have hrwa : g.rwa = true := by
    have all : ∀ g ∈ ([.win, .pad, .xre, .xim, .mag, .wht] : List Region), g.rwa = true := by decide
    exact all g hg
  have hrefuses : (answer 0 s).refusesWrite (.elem g) ↔ ¬((s.mode = .idle ∨ s.mode = .running) ∧ s.cbusy = false) := by
    rw [refusesWrite_elem_iff, hrwa, Bool.true_and, ← Bool.not_eq_true, arrayWritable_iff]; rfl
  refine ⟨_, hw, fun hok => ?performed, fun hno => ?refused⟩
  case performed =>
    rw [writeElem_accepted (not_not.mpr hok ∘ hrefuses.mp), ha]
    exact ⟨s.mem.readWord_writeWords (g.addr i) [v] (i := 0) (by simp),
      fun b hb => s.mem.readByte_writeWords_outside [v] hb, rfl⟩
  case refused =>
    rw [writeElem_refused (hrefuses.mpr hno)]
    refine ⟨fun _ => rfl, rfl, rfl, ?_⟩
    exact (BitVec.toNat_setWidth_of_le (by decide)).trans ha

end Sys2Proof.Machine
end

section
/-! SUPPORT. The Producer's ports, and the word placed as the very next event (R79, R82, R90). -/

namespace Sys2Proof.Machine

/-! ### What a port decodes -/

/-- Every row of the opcode map gives commands of its own port (R87). -/
theorem port_of_row {row : Port × BitVec 8 × (BitVec 8 → Except DecodeError Instr)} (h : row ∈ opcodeMap)
    {arg : BitVec 8} {i : Instr} (hi : row.2.2 arg = .ok i) : i.port = row.1 := by
  have plain {j : Instr} (hj : plainRow j arg = .ok i) : i.port = j.port := by
    unfold plainRow at hj
    split at hj <;> cases hj
    rfl
  have srst (hj : srstRow arg = .ok i) : i.port = .hcmd := by
    unfold srstRow at hj
    split at hj <;> cases hj
    rfl
  simp only [opcodeMap, List.mem_cons, List.not_mem_nil, or_false] at h
  obtain rfl | rfl | rfl | rfl | rfl | rfl | rfl | rfl | rfl | rfl | rfl | rfl | rfl | rfl | rfl | rfl := h
  any_goals exact plain hi
  · cases hi; rfl
  · exact srst hi

/-- A port gives no command of another port (R87). -/
theorem port_of_decode {p : Port} {w : Word} {i : Instr} (h : decode p w = .ok i) : i.port = p := by
  unfold decode at h
  split at h
  · cases h
  · split at h
    · cases h
    · next row hf =>
      have hp : row.1 = p := by
        have := List.find?_some hf
        simp only [Bool.and_eq_true, beq_iff_eq] at this
        exact this.1
      rw [port_of_row (List.mem_of_find?_eq_some hf) h, hp]

/-- PUSH is the only command of PCMD (R87). -/
theorem push_of_port {i : Instr} (h : i.port = .pcmd) : ∃ ch, i = .push ch := by
  cases i with
  | push ch => exact ⟨ch, rfl⟩
  | _ => cases h

/-! ### The Producer and the sequencer -/

/-- No branch of PUSH touches the sequencer's registers (R93). -/
theorem execPush_sameSequencer (ch : BitVec 8) (s : State) : ∃ t, execPush ch s = .next t ∧ SameSequencer s t := by
  obtain ⟨_, e⟩ | ⟨_, _, e⟩ | ⟨_, _, _, e⟩ | ⟨_, _, _, e⟩ := execPush_cases ch s <;> refine ⟨_, e, ?_⟩
  · exact ⟨rfl, rfl, rfl, rfl⟩
  · exact ⟨rfl, rfl, rfl, rfl⟩
  · exact ⟨rfl, rfl, rfl, rfl⟩
  · rw [overrunCheck_frame]; exact ⟨rfl, rfl, rfl, rfl⟩

/-- A word on PCMD is a PUSH or ILLEGAL, and neither touches the sequencer's registers (R79). -/
theorem submit_pcmd_sameSequencer (w : Word) (s : State) : ∃ t, submit .pcmd w s = .next t ∧ SameSequencer s t := by
  obtain ⟨i, hd, e⟩ | ⟨_, _, e⟩ := submit_cases .pcmd w s <;> rw [e]
  · obtain ⟨ch, rfl⟩ := push_of_port (port_of_decode hd)
    exact execPush_sameSequencer ch s
  · exact ⟨_, rfl, rfl, rfl, rfl, rfl⟩

/-- Settles O19: a sample is staged, and a word on PCMD is a PUSH or ILLEGAL. -/
theorem producerNeverHolds : Obligations.ProducerNeverHolds := by
  refine fun s v => ⟨?pdata, ?pcmd, ?enabled⟩
  case pdata =>
    exact ⟨_, busWrite_register (r := .pdata) (by decide) (by simp) rfl v s, rfl, rfl, rfl, rfl⟩
  case pcmd =>
    obtain ⟨t, e, ⟨hbusy, hwait, hstage, hcmd⟩⟩ := submit_pcmd_sameSequencer v (answer 0 s)
    exact ⟨t, (busWrite_port .pcmd v s).trans e, hbusy, hwait, hstage, hcmd⟩
  case enabled => simp [State.enabled]

/-! ### The word placed next -/

theorem decode_of_decodeTableWord {nbits w : Nat} {i : Instr} (h : decodeTableWord nbits w = some i) :
    decode (portOfOpc (opcField (tableWord nbits w))) (tableWord nbits w) = .ok i := by
  unfold decodeTableWord at h
  split at h
  · next hd => cases h; exact hd
  · cases h

/-- The agent of the port is chosen for the word placed next, and the schedule is what it was (log 6). -/
theorem chooseAgent_issueNext (p : Port) (w : Word) (s : State) : chooseAgent (issueNext p w s) =
    some (portAgent p, s.setProg (portAgent p) (.write (BitVec.ofNat 18 p.addr) 4 w :: s.prog (portAgent p))) := by
  rw [chooseAgent_head (rest := s.sched) (by cases p <;> rfl) (by cases p <;> rfl)]
  cases p <;> rfl

/-- An operation placed before a program and used up again leaves the program as it was. -/
theorem setProg_setProg_prog (s : State) (who : Agent) (ops : List AgentOp) :
    ({ s.setProg who ops with turn := who } : State).setProg who (s.prog who) = { s with turn := who } := by
  cases who <;> rfl

/-- The step of the word placed next submits it, with its agent's turn and nothing else changed (log 6). -/
theorem step_issueNext (p : Port) (w : Word) (s : State) :
    step (issueNext p w s) = submit p w { s with turn := portAgent p, busData := 0, busError := false } := by
  have hprog : (issueNext p w s).prog (portAgent p) =
      .write (BitVec.ofNat 18 p.addr) 4 w :: s.prog (portAgent p) := by cases p <;> rfl
  have hrole : outsideRole (portAgent p) (BitVec.ofNat 18 p.addr) 4 = false := by
    rw [outsideRole_port]; cases p <;> rfl
  have hmark : (issueNext p w s).refusedMark = s.refusedMark := by cases p <;> rfl
  rw [step_write (chooseAgent_issueNext p w s) hprog, busWrite_port, hrole, Bool.or_false, hmark, setProg_setProg_prog]
  rfl

/-- Settles O6: the word's command is what its port decodes, and its port is the command's. -/
theorem fetchWordRunsNext : Obligations.FetchWordRunsNext := by
  intro s nbits w i h
  have hd := decode_of_decodeTableWord h
  rw [State.withFetchWord, step_issueNext, submit, hd, ← port_of_decode hd]

end Sys2Proof.Machine
end

section
/-! SUPPORT. The encoder and the decoder against each other: the words a port decodes are those of its own well-formed
commands, each from its three fields (R85 to R88), and an ILLEGAL word is only recorded (R89). -/

namespace Sys2Proof

/-! ### Words and their fields -/

theorem toNat_cmdWord (arg opc : BitVec 8) : (cmdWord arg opc).toNat = 256 * arg.toNat + opc.toNat := by
  have hshift : (arg.zeroExtend 32 <<< 8).toNat = arg.toNat <<< 8 := by
    rw [BitVec.toNat_shiftLeft, BitVec.toNat_setWidth, Nat.shiftLeft_eq, Nat.shiftLeft_eq]
    omega
  have hopc : (opc.zeroExtend 32).toNat = opc.toNat := by rw [BitVec.toNat_setWidth]; omega
  rw [cmdWord, BitVec.toNat_or, hshift, hopc, ← Nat.shiftLeft_add_eq_or_of_lt opc.isLt, Nat.shiftLeft_eq]
  omega

/-- A word whose reserved field is 0 is the word of its two other fields (R85). -/
theorem cmdWord_fields {w : Word} (h : rsvField w = 0) : cmdWord (argField w) (opcField w) = w := by
  have hrsv : (rsvField w).toNat = 0 := by rw [h]; rfl
  apply BitVec.eq_of_toNat_eq
  rw [toNat_cmdWord]
  simp only [rsvField, argField, opcField, BitVec.extractLsb'_toNat, Nat.shiftRight_eq_div_pow, Nat.reducePow] at hrsv ⊢
  omega

@[simp] theorem opcField_encode (i : Instr) : opcField (encode i) = i.opc := opcField_cmdWord _ _

/-- The OPC alone tells the port (R87). -/
@[simp] theorem portOfOpc_opc (i : Instr) : portOfOpc i.opc = i.port := by cases i <;> rfl

@[simp] theorem tableWord_toNat (w : Word) : tableWord 32 w.toNat = w := by
  rw [tableWord, Nat.mod_eq_of_lt w.isLt, BitVec.ofNat_toNat, BitVec.setWidth_eq]

/-! ### What a row gives -/

theorem plainRow_eq_ok {i j : Instr} {arg : BitVec 8} : plainRow i arg = .ok j ↔ arg = 0 ∧ i = j := by
  by_cases h : arg = 0#8 <;> simp [plainRow, h]

theorem srstRow_eq_ok {j : Instr} {arg : BitVec 8} : srstRow arg = .ok j ↔ arg = srstKey ∧ .srst arg = j := by
  by_cases h : arg = srstKey <;> simp [srstRow, h]

/-- The command a row of the opcode map gives for an ARG is well formed and has the row's OPC and that ARG (R87, R88). -/
theorem fields_of_row {row : Port × BitVec 8 × (BitVec 8 → Except DecodeError Instr)} (h : row ∈ opcodeMap)
    {arg : BitVec 8} {i : Instr} (hi : row.2.2 arg = .ok i) : i.WellFormed ∧ i.opc = row.2.1 ∧ i.arg = arg := by
  have plain {j : Instr} (hj : plainRow j arg = .ok i) (hw : j.WellFormed) (ha : j.arg = 0) :
      i.WellFormed ∧ i.opc = j.opc ∧ i.arg = arg := by
    obtain ⟨rfl, rfl⟩ := plainRow_eq_ok.mp hj
    exact ⟨hw, rfl, ha⟩
  simp only [opcodeMap, List.mem_cons, List.not_mem_nil, or_false] at h
  obtain rfl | rfl | rfl | rfl | rfl | rfl | rfl | rfl | rfl | rfl | rfl | rfl | rfl | rfl | rfl | rfl := h
  any_goals exact plain hi rfl rfl
  · cases hi; exact ⟨rfl, rfl, rfl⟩
  · obtain ⟨rfl, rfl⟩ := srstRow_eq_ok.mp hi
    exact ⟨rfl, rfl, rfl⟩

/-! ### The decoder -/

/-- A well-formed command's word decodes to it at its own port. -/
theorem decode_encode {i : Instr} (h : i.WellFormed) : decode i.port (encode i) = .ok i := by
  open Laws.RoundTrip in
  cases i with
  | push ch => exact push ch h
  | nop => exact nop h
  | snapshot => exact snapshot h
  | transient => exact transient h
  | window => exact window h
  | zeropad => exact zeropad h
  | fft => exact fft h
  | mag => exact mag h
  | whiten => exact whiten h
  | solve => exact solve h
  | publish => exact publish h
  | step => exact step h
  | start => exact start h
  | stop => exact stop h
  | clrfault => exact clrfault h
  | srst key => exact srst key h

/-- The only word that decodes to a command is the command's own. -/
theorem encode_of_decode {p : Port} {w : Word} {i : Instr} (h : decode p w = .ok i) : i.WellFormed ∧ encode i = w := by
  unfold decode at h
  split at h
  · cases h
  · next hrsv =>
    split at h
    · cases h
    · next row hf =>
      have hopc : row.2.1 = opcField w := by
        have := List.find?_some hf
        simp only [Bool.and_eq_true, beq_iff_eq] at this
        exact this.2
      obtain ⟨hw, ho, ha⟩ := fields_of_row (List.mem_of_find?_eq_some hf) h
      exact ⟨hw, by rw [encode, ha, ho, hopc, cmdWord_fields (not_not.mp hrsv)]⟩

/-- A port decodes exactly the words of its own well-formed commands (R88). -/
theorem decode_eq_ok_iff {p : Port} {w : Word} {i : Instr} :
    decode p w = .ok i ↔ i.port = p ∧ i.WellFormed ∧ encode i = w :=
  ⟨fun h => ⟨Machine.port_of_decode h, encode_of_decode h⟩, fun ⟨hp, hw, he⟩ => hp ▸ he ▸ decode_encode hw⟩

/-- Only its own port decodes a command's word, since the OPC tells the port (R87). -/
theorem port_of_decode_encode {p : Port} {i j : Instr} (h : decode p (encode i) = .ok j) : p = i.port := by
  obtain ⟨hp, _, he⟩ := decode_eq_ok_iff.mp h
  have hopc : j.opc = i.opc := by simpa using congrArg opcField he
  rw [← hp, ← portOfOpc_opc j, hopc, portOfOpc_opc]

/-- Settles O1: each command's word decodes to it at its own port, and no other port decodes it. -/
theorem encodingsRoundTrip : Obligations.EncodingsRoundTrip := by
  intro i hw
  refine ⟨decode_encode hw, ?table, fun p hp => ?other⟩
  case table => simp [decodeTableWord, decode_encode hw]
  case other =>
    cases hd : decode p (encode i) with
    | error e => exact ⟨e, rfl⟩
    | ok j => exact absurd (port_of_decode_encode hd) hp

/-- Settles O2: a decoded word is the word of a well-formed command, one row of the table for each of them. -/
theorem legalWordsAreExactlyTheTable : Obligations.LegalWordsAreExactlyTheTable := by
  intro p w i
  rw [decode_eq_ok_iff]
  cases i with
  | push ch =>
    have hword : encode (.push ch) = w ↔ w.toNat = 256 * ch.toNat + 1 := by
      rw [← BitVec.toNat_inj, encode, toNat_cmdWord]
      exact eq_comm
    simp [Instr.port, Instr.wellFormed, hword, eq_comm]
  | srst key =>
    by_cases hk : key = 0xA5#8
    · subst hk; simp [Instr.port, Instr.wellFormed, srstKey, encode, cmdWord, Instr.arg, Instr.opc, eq_comm]
    · simp [Instr.WellFormed, Instr.wellFormed, srstKey, hk]
  | _ => simp [Instr.port, Instr.wellFormed, encode, cmdWord, Instr.arg, Instr.opc, eq_comm]

/-- Settles O3: each word is looked up in the table. -/
theorem sampleWordsDecodeRight : Obligations.SampleWordsDecodeRight := by
  unfold Obligations.SampleWordsDecodeRight
  decide

end Sys2Proof

namespace Sys2Proof.Machine

/-- A word with no decoding, written to a port, is recorded as Fault(4, w) once the bus has answered (R89). -/
theorem busWrite_illegal {p : Port} {w : Word} (h : ∀ i, decode p w ≠ .ok i) (s : State) :
    busWrite (BitVec.ofNat 18 p.addr) 4 w s = .next (raiseFault .illegal w (answer 0 s)) := by
  rw [busWrite_port]
  obtain ⟨i, hd, _⟩ | ⟨_, _, e⟩ := submit_cases p w (answer 0 s)
  · exact absurd hd (h i)
  · exact e

/-- Settles O4: a decoded word has a command's port and OPC, and the fault record is all that an ILLEGAL word writes. -/
theorem illegalWordIsOnlyRecorded : Obligations.IllegalWordIsOnlyRecorded := by
  refine ⟨fun p w h i hd => ?_, fun p w s h => ⟨_, busWrite_illegal h s, rfl⟩⟩
  obtain ⟨hp, _, rfl⟩ := decode_eq_ok_iff.mp hd
  exact h i hp (opcField_encode i).symm

end Sys2Proof.Machine
end

section
/-! SUPPORT. A step always answers: no operation of an agent and no event of the sequencer is without a next state under the
session invariants, and a run that nothing can move any more is exactly the stuck one (R91, R119, R132, R149). -/

namespace Sys2Proof.Machine

/-! ### Commands and accesses answer -/

/-- Every command answers a next state: only STEP's event with no stage would not (log 10). -/
theorem exec_answers {i : Instr} {s : State} (h : s.executing i = true → s.cstage ≠ .none) : ∃ t, exec i s = .next t := by
  cases i with
  | push ch => obtain ⟨_, e⟩ | ⟨_, _, e⟩ | ⟨_, _, _, e⟩ | ⟨_, _, _, e⟩ := execPush_cases ch s <;> exact ⟨_, e⟩
  | nop => simp only [exec, execNop]; split_ifs <;> exact ⟨_, rfl⟩
  | snapshot => simp only [exec, execSnapshot]; split_ifs <;> exact ⟨_, rfl⟩
  | step =>
    simp only [exec, execStep]
    split_ifs with he
    · obtain ⟨hc, _⟩ | ⟨_, _, e⟩ | ⟨_, _, _, e⟩ | ⟨_, _, _, e⟩ | ⟨_, e⟩ | ⟨_, e⟩ | ⟨_, e⟩ | ⟨_, e⟩ | ⟨_, e⟩ | ⟨_, e⟩ | ⟨_, e⟩ |
        ⟨_, e⟩ := stepStage_cases s
      · exact absurd hc (h he)
      all_goals exact ⟨_, e⟩
    · exact ⟨_, rfl⟩
  | start => obtain ⟨_, e⟩ | ⟨_, _, _, e⟩ | ⟨_, _, e⟩ := execStart_cases s <;> exact ⟨_, e⟩
  | stop => simp only [exec, execStop]; split_ifs <;> exact ⟨_, rfl⟩
  | clrfault => simp only [exec, execClrfault]; split_ifs <;> exact ⟨_, rfl⟩
  | srst key => simp only [exec, execSrst]; split_ifs <;> exact ⟨_, rfl⟩
  | transient | window | zeropad | fft | mag | whiten | solve | publish => exact ⟨_, rfl⟩

/-- In another agent's event no command is the one the sequencer is executing, so every bus write answers. -/
theorem busWrite_answers (a : Addr) (size : Nat) (v : Word) {s : State} (ht : s.turn ≠ .sequencer) :
    ∃ t, busWrite a size v s = .next t := by
  obtain ⟨_, e⟩ | ⟨p, _, _, e⟩ | ⟨_, _, _, _, e⟩ | ⟨_, _, _, e⟩ | ⟨_, _, e⟩ := busWrite_cases a size v s <;> rw [e]
  case inr.inl =>
    obtain ⟨i, _, e⟩ | ⟨_, _, e⟩ := submit_cases p v (answer 0 s) <;> rw [e]
    · exact exec_answers fun he => absurd ((State.executing_iff ..).mp he).1 ht
    · exact ⟨_, rfl⟩
  all_goals exact ⟨_, rfl⟩

@[simp] theorem setProg_turn (s : State) (who : Agent) (ops : List AgentOp) : (s.setProg who ops).turn = s.turn := by
  cases who <;> rfl

theorem performOp_answers (who : Agent) (op : AgentOp) (rest : List AgentOp) {s : State} (ht : s.turn ≠ .sequencer) :
    ∃ t, performOp who op rest s = .next t := by
  obtain ⟨a, size, v, _, e⟩ | ⟨_, _, _, e⟩ | ⟨_, _, _, _, e⟩ := performOp_cases who op rest s <;> rw [e]
  · exact busWrite_answers a size v (by simpa [markRole_eq] using ht)
  · exact ⟨_, rfl⟩
  · exact ⟨_, rfl⟩

/-! ### The events of the agents answer -/

/-- A staged command is written to CCMD and is no NOP (R119). -/
theorem staged_ccmd {i : Instr} (h : i.staged = true) : i.port = .ccmd ∧ i.WellFormed ∧ i ≠ .nop := by
  cases i with
  | push | nop | start | stop | clrfault | srst => cases h
  | _ => exact ⟨rfl, rfl, nofun⟩

/-- No command has a stage 0 (R66). -/
theorem none_notMem_stages (i : Instr) : Stage.none ∉ i.stages := by cases i <;> simp [Instr.stages]

/-- A running command stands at a stage (R66). -/
theorem SessionInv.stage_of_busy {s : State} (h : SessionInv s) (hb : s.cbusy = true) : s.cstage ≠ .none := by
  obtain ⟨i, _, _, hst⟩ := h.busy hb
  intro hnone
  exact none_notMem_stages i (hnone ▸ hst)

/-- The busy sequencer's event is a command's: curcmd holds the word of a staged one (R65, R119). -/
theorem sequencerEvent_of_busy {s : State} (h : SessionInv s) (hb : s.cbusy = true) :
    ∃ i, i.staged = true ∧ s.curcmd = encode i ∧ sequencerEvent s = exec i s := by
  obtain ⟨i, hi, hcmd, _⟩ := h.busy hb
  obtain ⟨hport, hw, hnop⟩ := staged_ccmd hi
  have hd : decode .ccmd s.curcmd = .ok i := decode_eq_ok_iff.mpr ⟨hport, hw, hcmd.symm⟩
  exact ⟨i, hi, hcmd, by simp [sequencerEvent, hb, hd, hnop]⟩

theorem sequencerEvent_answers {s : State} (h : SessionInv s) : ∃ t, sequencerEvent s = .next t := by
  cases hb : s.cbusy with
  | false => simp [sequencerEvent, hb]
  | true =>
    obtain ⟨i, _, _, e⟩ := sequencerEvent_of_busy h hb
    rw [e]
    exact exec_answers fun _ => h.stage_of_busy hb

theorem agentEvent_answers {s : State} (h : SessionInv s) : ∃ t, agentEvent s.turn s = .next t := by
  cases ht : s.turn with
  | sequencer => exact sequencerEvent_answers h
  | _ =>
    simp only [agentEvent]
    split
    · exact ⟨_, rfl⟩
    · exact performOp_answers _ _ _ (by simp [ht])

/-- The invariants read nothing that a choice writes. -/
theorem SessionInv.of_choice {s u : State} {who : Agent} (h : SessionInv s) (hc : chooseAgent s = some (who, u)) :
    SessionInv { u with turn := who } := by
  obtain ⟨_, _, _, _, rfl⟩ := chooseAgent_some hc
  exact ⟨h.idle_free, h.stopping_busy, h.wait_iff, h.free, h.busy⟩

/-! ### Which runs proceed -/

theorem chooseAgent_eq_none {s : State} : chooseAgent s = none ↔ ∀ who, s.enabled who = false := by
  constructor
  · intro h who
    by_contra he
    have hmem : who ∈ s.enabledAgents := List.mem_filter.mpr ⟨by cases who <;> simp, by simpa using he⟩
    unfold chooseAgent at h
    split at h
    · cases h
    · split at h
      · next hnil => rw [hnil] at hmem; cases hmem
      · cases h
      · cases h
  · intro h
    have hdrop : s.sched.dropWhile (fun a => !s.enabled a) = [] := by simp [List.dropWhile_eq_nil_iff, h]
    have hnone : s.enabledAgents = [] := by simp [State.enabledAgents, h]
    simp [chooseAgent, hdrop, hnone]

/-- In a run that is not stuck an enabled event is followed by a next state. -/
theorem step_answers {s : State} (h : SessionInv s) (hs : s.stalled = false) (he : ∃ who, s.enabled who = true) :
    ∃ t, step s = .next t := by
  cases hc : chooseAgent s with
  | none =>
    obtain ⟨who, hwho⟩ := he
    exact absurd (chooseAgent_eq_none.mp hc who) (by simp [hwho])
  | some choice =>
    obtain ⟨who, u⟩ := choice
    rw [step_of_choice hc hs]
    exact agentEvent_answers (h.of_choice hc)

theorem step_of_stalled {s : State} (h : s.stalled = true) : step s = .fault .stuck := by simp [step, h]

/-! ### Which runs are stuck -/

/-- A read is quiet if it writes the bus's answer at most. -/
theorem quietRead_iff (a : Addr) (s : State) :
    quietRead a s = true ↔ ∃ data error, busRead a 4 s = { s with busData := data, busError := error } := by
  constructor
  · intro h
    obtain ⟨v, _, _, e⟩ | ⟨_, e⟩ := busRead_cases a 4 s
    · exact ⟨v, false, e⟩
    · simp only [quietRead, e, Bool.and_eq_true, beq_iff_eq] at h
      obtain ⟨⟨⟨⟨hfault, hcause⟩, hinfo⟩, hpend⟩, hseen⟩ := h
      refine ⟨0, true, ?_⟩
      rw [e, ← hfault, ← hcause, ← hinfo, ← hpend, ← hseen]
      rfl
  · rintro ⟨data, error, e⟩
    simp [quietRead, e]

/-- An agent waits at the end of its program, or at a POLL that neither is met nor changes the block (R91, log 10). -/
theorem waits_iff (s : State) (who : Agent) :
    s.waits who = true ↔ s.prog who = [] ∨ ∃ a mask val rest, s.prog who = .poll a mask val :: rest ∧
      (busRead a 4 s).busData &&& mask ≠ val ∧
      ∃ data error, busRead a 4 s = { s with busData := data, busError := error } := by
  unfold State.waits
  split
  · next h => simp [h]
  · next a mask val rest h => simp [h, quietRead_iff, and_comm]
  · next h => simp [h]
  · next h => simp [h]

theorem stalled_iff (s : State) :
    s.stalled = true ↔ s.cwait = true ∧ s.enabled .sequencer = false ∧ ∀ who, s.waits who = true := by
  have hall : (∀ who, s.waits who = true) ↔ s.waits .producer = true ∧ s.waits .host = true ∧ s.waits .reader = true :=
    ⟨fun h => ⟨h _, h _, h _⟩, fun ⟨hp, hh, hr⟩ who => by cases who with
      | sequencer => rfl
      | _ => assumption⟩
  simp only [State.stalled, State.held, Bool.and_eq_true, Bool.not_eq_true', State.enabled, hall, and_assoc]

/-- An agent with no enabled event has no program left. -/
theorem waits_of_not_enabled {s : State} {who : Agent} (h : s.enabled who = false) : s.waits who = true := by
  refine (waits_iff s who).mpr (.inl ?_)
  cases who with
  | sequencer => rfl
  | _ => simpa [State.enabled, State.prog] using h

/-- With no enabled event the run is over, or stuck in the wait (R149). -/
theorem step_of_none_enabled {s : State} (h : ∀ who, s.enabled who = false) :
    step s = .fault (if s.cwait then .stuck else .runOver) := by
  cases hw : s.cwait with
  | true => exact step_of_stalled ((stalled_iff s).mpr ⟨hw, h _, fun who => waits_of_not_enabled (h who)⟩)
  | false =>
    have hs : s.stalled = false := by simp [State.stalled, State.held, hw]
    simp [step, hs, chooseAgent_eq_none.mpr h]

/-- Settles O7: every chosen event answers, and the stuck runs are those in which no agent is left that could change
anything. -/
theorem blockAlwaysProceeds : Obligations.BlockAlwaysProceeds := by
  refine ⟨fun s h => ⟨step_answers h, step_of_stalled, step_of_none_enabled⟩, fun s => ?_⟩
  simp only [stalled_iff, waits_iff]

end Sys2Proof.Machine
end

section
/-! SUPPORT. The ring's own operations (R92 to R96): elements after a store, the frame stored in RING with its wrap, the
window SNAPSHOT reads, and what `finish()` leaves. -/

namespace Sys2Proof.Machine

/-! ### Elements after a store -/

/-- A stored element reads as the word stored there. -/
theorem elem_setElems (s : State) (g : Region) (i : Nat) {ws : List Word} {j : Nat} (hj : j < ws.length) :
    (s.setElems g i ws).elem g (i + j) = ws[j] := by
  rw [State.elem, setElems_mem, show g.addr (i + j) = g.addr i + 4 * j by simp only [Region.addr]; omega]
  exact Memory.readWord_writeWords _ _ ws hj

/-- An element apart from the stored ones reads as before. -/
theorem elem_setElems_outside (s : State) {g g' : Region} {i j : Nat} {ws : List Word}
    (h : g'.addr j + 4 ≤ g.addr i ∨ g.addr i + 4 * ws.length ≤ g'.addr j) :
    (s.setElems g i ws).elem g' j = s.elem g' j :=
  Memory.readWord_writeWords_outside _ ws h

/-- A word is its four bytes. -/
theorem elem_of_bytes {s t : State} {g : Region} {i : Nat}
    (h : ∀ k < 4, t.mem.readByte (g.addr i + k) = s.mem.readByte (g.addr i + k)) : t.elem g i = s.elem g i := by
  have h0 := h 0 (by decide)
  rw [Nat.add_zero] at h0
  simp only [State.elem, Memory.readWord, h0, h 1 (by decide), h 2 (by decide), h 3 (by decide)]

/-! ### The frame stored in RING -/

/-- Sample `i` of a frame is stored at ring index `(W + i) mod 2048` (R93). -/
theorem elem_ringStore (s : State) {ws : List Word} (hlen : ws.length ≤ 2048) {i : Nat} (hi : i < ws.length) :
    (ringStore ws s).elem .ring ((s.w.toNat + i) % 2048) = ws[i] := by
  simp only [ringStore, Config.cap]
  by_cases hwrap : s.w.toNat % 2048 + i < 2048
  · rw [elem_setElems_outside, show (s.w.toNat + i) % 2048 = s.w.toNat % 2048 + i by omega, elem_setElems,
      List.getElem_take]
    · rw [List.length_take]; omega
    · simp only [Region.addr, List.length_drop]; omega
  · rw [show (s.w.toNat + i) % 2048 = 0 + (i - (2048 - s.w.toNat % 2048)) by omega, elem_setElems, List.getElem_drop]
    · congr 1; omega
    · rw [List.length_drop]; omega

/-- A byte that lies in none of `n` words on end lies below or above them all. -/
theorem outside_of_words {a b n : Nat} (h : ∀ i < n, a < b + 4 * i ∨ b + 4 * i + 4 ≤ a) : a < b ∨ b + 4 * n ≤ a := by
  by_contra hin
  have := h ((a - b) / 4) (by omega)
  omega

/-- A byte of none of the frame's elements reads as before (R93). -/
theorem readByte_ringStore_outside (s : State) {ws : List Word} (hlen : ws.length ≤ 2048) {a : Nat}
    (h : ∀ i < ws.length, a < Region.addr .ring ((s.w.toNat + i) % 2048) ∨
      Region.addr .ring ((s.w.toNat + i) % 2048) + 4 ≤ a) :
    (ringStore ws s).mem.readByte a = s.mem.readByte a := by
  have hstart : s.w.toNat % 2048 < 2048 := Nat.mod_lt _ (by decide)
  simp only [ringStore, setElems_mem, Config.cap]
  rw [Memory.readByte_writeWords_outside, Memory.readByte_writeWords_outside]
  · refine outside_of_words fun i hi => ?_
    rw [List.length_take] at hi
    have := h i (by omega)
    simp only [Region.addr] at this ⊢
    omega
  · refine outside_of_words fun i hi => ?_
    rw [List.length_drop] at hi
    have := h (2048 - s.w.toNat % 2048 + i) (by omega)
    simp only [Region.addr] at this ⊢
    omega

/-- An element beyond the frame reads as before. -/
theorem elem_ringStore_outside (s : State) {ws : List Word} {i : Nat} (hlo : ws.length ≤ i) (hhi : i < 2048) :
    (ringStore ws s).elem .ring ((s.w.toNat + i) % 2048) = s.elem .ring ((s.w.toNat + i) % 2048) := by
  refine elem_of_bytes fun k hk => readByte_ringStore_outside s (by omega) fun j hj => ?_
  simp only [Region.addr]
  omega

@[simp] theorem length_stagedFrame (s : State) : s.stagedFrame.length = 128 := Memory.length_readWords ..

theorem getElem_stagedFrame (s : State) {i : Nat} (hi : i < s.stagedFrame.length) :
    s.stagedFrame[i] = s.stg.readWord (4 * i) := by
  simp only [State.stagedFrame, Memory.getElem_readWords, Nat.zero_add]

/-- The overrun check does not touch the memory, nor what the commit stores there (R94). -/
theorem commit_mem (s : State) : (commitFrame (overrunCheck s)).mem = (ringStore s.stagedFrame s).mem := by
  rw [overrunCheck_frame]; rfl

/-! ### The window SNAPSHOT reads -/

/-- Sample `i` of the newest 2048 stands at ring index `(W + i) mod 2048` (R96). -/
theorem getElem_ringWindow (s : State) {i : Nat} (hi : i < s.ringWindow.length) :
    s.ringWindow[i] = s.elem .ring ((s.w.toNat + i) % 2048) := by
  rw [length_ringWindow] at hi
  simp only [State.ringWindow, State.elems, Config.cap, List.getElem_append, Memory.length_readWords,
    Memory.getElem_readWords, State.elem, Region.addr]
  split <;> congr 1 <;> omega

theorem snapshotReady_iff (s : State) : s.snapshotReady = true ↔ 128 ≤ s.lagSamples ∨ s.mode ≠ .running := by
  rw [State.snapshotReady, Bool.or_eq_true, decide_eq_true_iff, bne_iff_ne]; rfl

section Snapshot
variable {s : State}

theorem execSnapshot_arrives (h : s.executing .snapshot = false) :
    execSnapshot s = .next (accept .snapshot .snapshot s) := by
  simp [execSnapshot, h]

theorem execSnapshot_held (he : s.executing .snapshot = true) (hr : s.snapshotReady = false) :
    execSnapshot s = .next s := by
  simp [execSnapshot, he, hr]

theorem execSnapshot_cancelled (he : s.executing .snapshot = true) (hm : s.mode ≠ .running) :
    execSnapshot s = .next (finish s) := by
  simp [execSnapshot, he, hm, (snapshotReady_iff s).mpr (.inr hm)]

theorem execSnapshot_completes (he : s.executing .snapshot = true) (hr : s.snapshotReady = true)
    (hm : s.mode = .running) : execSnapshot s = .next (finish (takeSnapshot s)) := by
  simp [execSnapshot, he, hr, hm]

/-- WIN[i] is the sample `i` of the newest 2048 (R96). -/
theorem elem_takeSnapshot_win (s : State) {i : Nat} (hi : i < 2048) :
    (takeSnapshot s).elem .win i = s.elem .ring ((s.w.toNat + i) % 2048) := by
  have hlen : i < s.ringWindow.length := by rwa [length_ringWindow]
  rw [← getElem_ringWindow s hlen]
  exact s.mem.readWord_writeWords (Region.win.addr 0) s.ringWindow hlen

end Snapshot

/-! ### What `finish()` leaves -/

/-- `finish()` writes the sequencer's registers, STATE and IRQ_PEND only (R119). -/
theorem finish_frame (s : State) : finish s =
    { s with
      cbusy := false, cwait := false, cstage := .none, curcmd := 0
      mode := (finish s).mode, irqPend := (finish s).irqPend } := by
  obtain ⟨_, h⟩ | ⟨_, h⟩ := finish_cases s
  · rw [h]; rfl
  · rw [h]

/-- An event that leaves STATE alone and pends some bits, then `finish()` (R119). -/
theorem finished_finish {extra : BitVec 6} {s u : State} (hm : u.mode = s.mode) (hp : u.irqPend = s.irqPend ||| extra) :
    Finished extra s (finish u) := by
  obtain ⟨hstop, h⟩ | ⟨hgo, h⟩ := finish_cases u <;> rw [h]
  · rw [hm] at hstop
    exact ⟨rfl, rfl, rfl, rfl, by simp [goIdle, hstop], by simp [goIdle, hp, hstop, IrqSource.mask]⟩
  · rw [hm] at hgo
    exact ⟨rfl, rfl, rfl, rfl, by simp [hm, hgo], by simp [hp, hgo]⟩

theorem sameAround_finish (s : State) : SameAround s (finish s) := by
  rw [finish_frame]; constructor <;> constructor <;> rfl

theorem sameDatapath_finish (s : State) : SameDatapath s (finish s) := by
  rw [finish_frame]; constructor <;> constructor <;> rfl

@[simp] theorem finish_mem (s : State) : (finish s).mem = s.mem := by rw [finish_frame]

/-! ### Counters that saturate -/

theorem toNat_satInc (v : Word) : (satInc v).toNat = min (v.toNat + 1) (2 ^ 32 - 1) := by
  unfold satInc
  split <;> bv_omega

theorem channelCount_eq_one (ch : BitVec 8) : channelCount ch = 1 ↔ ch = 1 := by
  unfold channelCount
  constructor <;> intro h <;> bv_omega

/-! ### Staging -/

theorem toNat_stageSample_stgCnt (v : Word) (s : State) :
    (stageSample v s).stgCnt.toNat = min (s.stgCnt.toNat + 1) 255 := by
  rw [stageSample_stgCnt]
  split <;> bv_omega

/-- Below 128 a sample is stored (R92). -/
theorem stageSample_stg_of_lt (v : Word) {s : State} (h : s.stgCnt.toNat < 128) :
    (stageSample v s).stg = s.stg.writeWord (4 * s.stgCnt.toNat) v := if_pos h

/-- From 128 on it is only counted (R92). -/
theorem stageSample_stg_of_ge (v : Word) {s : State} (h : ¬ s.stgCnt.toNat < 128) :
    (stageSample v s).stg = s.stg := if_neg h

/-! ### The obligations on single events -/

/-- Settles O20: NOP's three answers are the branches of its meaning. -/
theorem nopFollowsItsRule : Obligations.NopFollowsItsRule := by
  intro s
  have hword : encode .nop = 0x00000010 := by decide
  simp only [exec, execNop, hword]
  refine ⟨fun ha hb => ?_, fun ha => ?_, fun ha hb => ?_⟩
  · simp [ha, hb]
  · simp [ha]
  · simp [ha, hb]

/-- Settles O17: the write reaches PDATA, and one sample is stored in one word of STG. -/
theorem pdataStagesASample : Obligations.PdataStagesASample := by
  intro s v
  refine ⟨stageSample v (answer 0 s), busWrite_register (r := .pdata) (by decide) (by simp) rfl v s,
    toNat_stageSample_stgCnt v _, fun hroom => ?stored, fun a ha => ?kept, rfl⟩
  case stored =>
    rw [stageSample_stg_of_lt (s := answer 0 s) v hroom]
    exact Memory.readWord_writeWords _ _ [v] (i := 0) (by simp)
  case kept =>
    by_cases hroom : s.stgCnt.toNat < 128
    · rw [stageSample_stg_of_lt (s := answer 0 s) v hroom]
      exact Memory.readByte_writeWords_outside _ [v] (ha hroom)
    · rw [stageSample_stg_of_ge (s := answer 0 s) v hroom]; rfl

/-- Settles O18: one case for each branch of PUSH, and of the overrun check before a commit. -/
theorem pushFollowsItsRule : Obligations.PushFollowsItsRule := by
  intro ch s
  have hch := channelCount_eq_one ch
  obtain ⟨hm, e⟩ | ⟨hm, hc, e⟩ | ⟨hm, hc, hn, e⟩ | ⟨hm, hc, hn, e⟩ := execPush_cases ch s
  · refine ⟨fun _ => ⟨_, e, toNat_satInc _, rfl⟩, ?_, ?_, ?_⟩ <;> exact fun h => absurd h hm
  · have hne : ch ≠ 1 := mt hch.mpr hc
    exact ⟨fun h => absurd hm h, fun _ _ => e, fun _ h => absurd h hne, fun _ h => absurd h hne⟩
  · have hcnt : s.stgCnt.toNat ≠ 128 := fun h => hn (BitVec.eq_of_toNat_eq h)
    exact ⟨fun h => absurd hm h, fun _ h => absurd (hch.mp hc) h, fun _ _ _ => e, fun _ _ h => absurd h hcnt⟩
  · refine ⟨fun h => absurd hm h, fun _ h => absurd (hch.mp hc) h, fun _ _ h => absurd (by rw [hn]; rfl) h, fun _ _ _ => ?_⟩
    refine ⟨_, e, ?w, rfl, fun i hi => ?stored, fun a ha => ?kept, fun hroom => ?room, fun hfull => ?overrun, ?frame⟩
    case w => rw [overrunCheck_frame]; rfl
    case stored =>
      rw [State.elem, commit_mem, ← getElem_stagedFrame s (by simpa using hi)]
      exact elem_ringStore s (by simp) _
    case kept => rw [commit_mem]; exact readByte_ringStore_outside s (by simp) (by simpa using ha)
    case room =>
      obtain ⟨hle, _⟩ | ⟨_, h⟩ := overrunCheck_cases s
      · exact absurd hle (Nat.not_le.mpr hroom)
      · rw [h]; exact ⟨rfl, rfl, rfl⟩
    case overrun =>
      obtain ⟨_, h⟩ | ⟨hlt, _⟩ := overrunCheck_cases s
      · rw [h]; exact ⟨rfl, toNat_satInc _, BitVec.or_assoc ..⟩
      · exact absurd hlt (Nat.not_lt.mpr hfull)
    case frame => rw [overrunCheck_frame]; rfl

/-- Settles O21: SNAPSHOT's arrival, and the three outcomes of its event. -/
theorem snapshotFollowsItsRule : Obligations.SnapshotFollowsItsRule := by
  refine ⟨fun s hturn ha hb hm => ?arrives, fun s he => ⟨fun hlag hm => ?held, fun hm => ?cancelled, fun hlag hm => ?taken⟩⟩
  case arrives =>
    have he : s.executing .snapshot = false := by simp [State.executing, hturn]
    refine (execSnapshot_arrives he).trans ?_
    simp only [accept, ha, hb, hm, startCommand, Bool.false_eq_true, if_false, ne_eq, not_true_eq_false, if_true]
    rfl
  case held =>
    refine execSnapshot_held he ?_
    rw [← Bool.not_eq_true, snapshotReady_iff]
    exact not_or.mpr ⟨Nat.not_le.mpr hlag, not_not.mpr hm⟩
  case cancelled =>
    exact ⟨_, execSnapshot_cancelled he hm, finished_finish rfl (by simp), sameAround_finish s, sameDatapath_finish s,
      fun a => by rw [finish_mem]⟩
  case taken =>
    refine ⟨_, execSnapshot_completes he ((snapshotReady_iff s).mpr (.inl hlag)) hm, ?_⟩
    refine ⟨?lag, ?wend, ?r, fun i hi => ?window, fun a ha => ?bytes, finished_finish rfl (by simp), ?_⟩
    case window =>
      rw [State.elem, finish_mem]
      refine (elem_takeSnapshot_win s hi).trans ?_
      congr 1
      have : (s.w - 2048).toNat % 2048 = s.w.toNat % 2048 := by bv_omega
      omega
    case bytes =>
      rw [finish_mem, takeSnapshot_mem]
      exact Memory.readByte_writeWords_outside _ _ (by rwa [length_ringWindow])
    all_goals rw [finish_frame]
    case lag =>
      have := s.w.isLt
      simp only [takeSnapshot_lag, State.avail, State.lagSamples, Config.step, BitVec.toNat_ofNat]
      omega
    case wend => rfl
    case r => rfl
    refine ⟨?_, ?_, ?_, ?_, ?_⟩
    · constructor <;> constructor <;> rfl
    all_goals constructor <;> rfl

end Sys2Proof.Machine
end

section
/-! SUPPORT. What one event of the block can do to the ring and its cursors, said once: it leaves them alone, commits one
frame, is SNAPSHOT's completion, or begins or ends a session (R93 to R96, R126, R147). -/

namespace Sys2Proof.Machine

/-! ### Events that leave the ring alone -/

/-- The cursors, the step counts and the newest 2048 samples stay, and no session becomes RUNNING. -/
structure RingKept (s t : State) : Prop where
  mode : t.mode = .running → s.mode = .running
  w : t.w = s.w
  r : t.r = s.r
  ovrcnt : t.ovrcnt = s.ovrcnt
  lag : t.lag = s.lag
  ring : t.ringWindow = s.ringWindow

theorem RingKept.refl (s : State) : RingKept s s := ⟨id, rfl, rfl, rfl, rfl, rfl⟩

theorem RingKept.trans {s t u : State} (h : RingKept s t) (k : RingKept t u) : RingKept s u :=
  ⟨h.mode ∘ k.mode, k.w.trans h.w, k.r.trans h.r, k.ovrcnt.trans h.ovrcnt, k.lag.trans h.lag, k.ring.trans h.ring⟩

/-- The window is read from W and from RING. -/
theorem ringWindow_congr {s t : State} (hw : t.w = s.w) (hring : ∀ j < 2048, t.elem .ring j = s.elem .ring j) :
    t.ringWindow = s.ringWindow := by
  refine List.ext_getElem (by simp only [length_ringWindow]) fun i hi _ => ?_
  rw [getElem_ringWindow, getElem_ringWindow, hw, hring _ (Nat.mod_lt _ (by decide))]

/-- An event that leaves the arrays' memory alone. -/
theorem RingKept.of_mem {s t : State} (hm : t.mode = .running → s.mode = .running) (hw : t.w = s.w) (hr : t.r = s.r)
    (ho : t.ovrcnt = s.ovrcnt) (hl : t.lag = s.lag) (hmem : t.mem = s.mem) : RingKept s t :=
  ⟨hm, hw, hr, ho, hl, ringWindow_congr hw fun j _ => by rw [State.elem, hmem, State.elem]⟩

/-- RING ends at 0x12000, so words stored above it are not its own (R69). -/
theorem ringKept_writeWords (s : State) {a : Nat} (ws : List Word) (ha : 0x12000 ≤ a) :
    RingKept s { s with mem := s.mem.writeWords a ws } := by
  refine ⟨id, rfl, rfl, rfl, rfl, ringWindow_congr rfl fun j hj => ?_⟩
  refine s.mem.readWord_writeWords_outside ws (.inl ?_)
  simp only [Region.addr, Region.base]; omega

/-- Every other array begins above RING (R69). -/
theorem Region.base_of_ne_ring {g : Region} (h : g ≠ .ring) : 0x14000 ≤ g.base := by
  cases g with
  | ring => exact absurd rfl h
  | _ => decide

theorem ringKept_setElems (s : State) {g : Region} (hg : g ≠ .ring) (i : Nat) (ws : List Word) :
    RingKept s (s.setElems g i ws) :=
  ringKept_writeWords s ws (by have := Region.base_of_ne_ring hg; rw [Region.addr]; omega)

section Operations
variable (s : State)

theorem ringKept_raiseFault (c : FaultCode) (info : Word) : RingKept s (raiseFault c info s) :=
  .of_mem id rfl rfl rfl rfl rfl

theorem ringKept_raiseBusError (a : Addr) : RingKept s (raiseBusError a s) := .of_mem id rfl rfl rfl rfl rfl

theorem ringKept_advance (st : Stage) : RingKept s (advance st s) := .of_mem id rfl rfl rfl rfl rfl

theorem ringKept_goIdle : RingKept s (goIdle s) := .of_mem (by simp) rfl rfl rfl rfl rfl

theorem ringKept_startCommand (i : Instr) (st : Stage) : RingKept s (startCommand i st s) :=
  .of_mem id rfl rfl rfl rfl rfl

theorem ringKept_rejectFrame (c : FaultCode) (info : Word) : RingKept s (rejectFrame c info s) :=
  .of_mem (by simp) rfl rfl rfl rfl rfl

theorem ringKept_setProg (who : Agent) (ops : List AgentOp) : RingKept s (s.setProg who ops) := by
  cases who <;> exact .of_mem id rfl rfl rfl rfl rfl

theorem ringKept_transientEvent : RingKept s (transientEvent s) :=
  .of_mem (by simp) (by simp) (by simp) (by simp) (by simp) (by simp)

theorem ringKept_windowEvent : RingKept s (windowEvent s) := ringKept_setElems s (by decide) ..

theorem ringKept_zeropadEvent : RingKept s (zeropadEvent s) := ringKept_setElems s (by decide) ..

theorem ringKept_fftEvent : RingKept s (fftEvent s) :=
  (ringKept_setElems s (g := .xre) (by decide) ..).trans (ringKept_setElems _ (g := .xim) (by decide) ..)

theorem ringKept_magEvent : RingKept s (magEvent s) := ringKept_setElems s (by decide) ..

theorem ringKept_whitenEvent : RingKept s (whitenEvent s) :=
  (ringKept_setElems s (g := .wht) (by decide) ..).trans (.of_mem id rfl rfl rfl rfl rfl)

theorem ringKept_solveEvent : RingKept s (solveEvent s) :=
  (ringKept_setElems s (g := .scr) (by decide) ..).trans (.of_mem id rfl rfl rfl rfl rfl)

theorem ringKept_publishEvent : RingKept s (publishEvent s) :=
  .of_mem (by simp) (by simp) (by simp) (by simp) (by simp) (by simp)

theorem ringKept_finish : RingKept s (finish s) := by
  obtain ⟨_, h⟩ | ⟨_, h⟩ := finish_cases s <;> rw [h]
  · exact .of_mem (by simp) rfl rfl rfl rfl rfl
  · exact .of_mem id rfl rfl rfl rfl rfl

theorem ringKept_requestTeardown : RingKept s (requestTeardown s) := by
  obtain ⟨_, h⟩ | ⟨_, h⟩ := requestTeardown_cases s <;> rw [h]
  · exact .of_mem (by simp) rfl rfl rfl rfl rfl
  · exact ringKept_goIdle s

theorem ringKept_accept (i : Instr) (st : Stage) : RingKept s (accept i st s) := by
  obtain ⟨_, h⟩ | ⟨_, _, h⟩ | ⟨_, _, _, h⟩ | ⟨_, _, _, h⟩ := accept_cases i st s <;> rw [h]
  · exact ringKept_raiseFault ..
  · exact ringKept_raiseFault ..
  · exact ringKept_raiseFault ..
  · exact ringKept_startCommand ..

theorem ringKept_singleStage (i : Instr) (st : Stage) {event : State → State} (h : RingKept s (event s)) :
    RingKept s (singleStage i st event s) := by
  obtain ⟨_, e⟩ | ⟨_, e⟩ := singleStage_cases i st event s <;> rw [e]
  · exact h.trans (ringKept_finish _)
  · exact ringKept_accept s i st

theorem ringKept_busRead (a : Addr) (size : Nat) : RingKept s (busRead a size s) := by
  obtain ⟨v, _, _, h⟩ | ⟨_, h⟩ := busRead_cases a size s <;> rw [h]
  · exact .of_mem id rfl rfl rfl rfl rfl
  · exact ringKept_raiseBusError s a

theorem ringKept_writeReg (a : Addr) (r : Reg) (v : Word) : RingKept s (writeReg a r v s) := by
  cases r with
  | cfg c =>
    simp only [writeReg, writeCfg]
    split
    · exact .of_mem id rfl rfl rfl rfl rfl
    · exact ringKept_raiseBusError s a
  | _ => exact .of_mem id rfl rfl rfl rfl rfl

/-- The bus writes no element of RING (R73). -/
theorem ringKept_writeElem {a : Addr} {g : Region} (hl : locate s.lat a.toNat = .elem g) (v : Word) :
    RingKept s (writeElem a g v s) := by
  unfold writeElem
  split
  · next h =>
    have hg : g ≠ .ring := by rintro rfl; cases h
    have := Region.base_of_ne_ring hg
    have := ((locate_elem_iff ..).mp hl).1
    exact ringKept_writeWords s [v] (by omega)
  · exact ringKept_raiseBusError s a

end Operations

/-! ### The events of the ring -/

/-- A frame is committed, the overrun check before it (R93, R94). -/
structure RingCommit (s t : State) : Prop where
  mode : s.mode = .running
  w : t.w = s.w + 128
  cursor : (s.lagSamples < 2048 ∧ t.r = s.r ∧ t.ovrcnt = s.ovrcnt) ∨
    (2048 ≤ s.lagSamples ∧ t.r = s.r + 128 ∧ t.ovrcnt = satInc s.ovrcnt)
  ring : t.ringWindow = (s.ringWindow ++ s.stagedFrame).drop 128

/-- SNAPSHOT takes every available step (R96). -/
structure RingTaken (s t : State) : Prop where
  mode : s.mode = .running
  available : 128 ≤ s.lagSamples
  w : t.w = s.w
  r : t.r = s.w
  ovrcnt : t.ovrcnt = s.ovrcnt
  lag : t.lag = BitVec.ofNat 32 s.avail
  ring : t.ringWindow = s.ringWindow

/-- What one event can do to the ring. -/
inductive RingEvent (s t : State) : Prop where
  | kept : RingKept s t → RingEvent s t
  | commit : RingCommit s t → RingEvent s t
  | taken : RingTaken s t → RingEvent s t
  | started : s.mode = .idle → t.ringWindow = List.replicate 2048 0 → RingEvent s t
  | reset : t.mode = .idle → RingEvent s t

/-- A committed frame is the newest end of the window, and its oldest 128 samples drop out (R93, R97). -/
theorem ringWindow_commit (s : State) :
    (commitFrame (overrunCheck s)).ringWindow = (s.ringWindow ++ s.stagedFrame).drop 128 := by
  have hw : (commitFrame (overrunCheck s)).w = s.w + 128 := by rw [overrunCheck_frame]; rfl
  refine List.ext_getElem (by simp [length_ringWindow]) fun i hi _ => ?_
  rw [length_ringWindow] at hi
  have hfrom : ((s.w + 128).toNat + i) % 2048 = (s.w.toNat + (128 + i)) % 2048 := by bv_omega
  rw [getElem_ringWindow, hw, hfrom, State.elem, commit_mem, List.getElem_drop, List.getElem_append]
  simp only [length_ringWindow]
  split
  · next hold =>
    rw [getElem_ringWindow]
    exact elem_ringStore_outside s (by rw [length_stagedFrame]; omega) hold
  · next hnew =>
    rw [show (s.w.toNat + (128 + i)) % 2048 = (s.w.toNat + (128 + i - 2048)) % 2048 by omega]
    exact elem_ringStore s (by simp) _

theorem ringCommit_commitFrame {s : State} (hm : s.mode = .running) : RingCommit s (commitFrame (overrunCheck s)) := by
  refine ⟨hm, by rw [overrunCheck_frame]; rfl, ?_, ringWindow_commit s⟩
  obtain ⟨hfull, h⟩ | ⟨hroom, h⟩ := overrunCheck_cases s <;> rw [h]
  · exact .inr ⟨hfull, rfl, rfl⟩
  · exact .inl ⟨hroom, rfl, rfl⟩

theorem ringTaken_takeSnapshot {s : State} (hm : s.mode = .running) (hr : s.snapshotReady = true) :
    RingTaken s (takeSnapshot s) := by
  have hlag : 128 ≤ s.lagSamples := ((snapshotReady_iff s).mp hr).resolve_right (not_not.mpr hm)
  exact ⟨hm, hlag, rfl, rfl, rfl, rfl, (ringKept_setElems s (g := .win) (by decide) 0 s.ringWindow).ring⟩

theorem RingTaken.then_kept {s u t : State} (h : RingTaken s u) (k : RingKept u t) : RingTaken s t :=
  ⟨h.mode, h.available, k.w.trans h.w, k.r.trans h.r, k.ovrcnt.trans h.ovrcnt, k.lag.trans h.lag, k.ring.trans h.ring⟩

theorem readWord_zeroed (a : Nat) : Memory.zeroed.readWord a = 0 := by
  change wordOfBytes 0 0 0 0 = 0
  decide

/-- START lays out RING as zeros (R126). -/
theorem ringWindow_of_sessionMemory {s : State} {l : Latched} (h : s.mem = sessionMemory l) :
    s.ringWindow = List.replicate 2048 0 := by
  refine List.ext_getElem (by rw [length_ringWindow, List.length_replicate]) fun i hi _ => ?_
  have := Nat.mod_lt (s.w.toNat + i) (show 0 < 2048 by decide)
  rw [getElem_ringWindow, List.getElem_replicate, State.elem, h, sessionMemory, Memory.readWord_writeWords_outside,
    readWord_zeroed]
  simp only [Region.addr, Region.base]
  omega

/-! ### Every event is one of them -/

section Events
variable {s t : State}

theorem execSnapshot_ring (h : execSnapshot s = .next t) : RingEvent s t := by
  cases he : s.executing .snapshot with
  | false => rw [execSnapshot_arrives he] at h; cases h; exact .kept (ringKept_accept ..)
  | true =>
    by_cases hm : s.mode = .running
    · cases hr : s.snapshotReady with
      | false => rw [execSnapshot_held he hr] at h; cases h; exact .kept (.refl s)
      | true =>
        rw [execSnapshot_completes he hr hm] at h; cases h
        exact .taken ((ringTaken_takeSnapshot hm hr).then_kept (ringKept_finish _))
    · rw [execSnapshot_cancelled he hm] at h; cases h; exact .kept (ringKept_finish s)

theorem stepStage_ring (h : stepStage s = .next t) : RingEvent s t := by
  obtain ⟨_, e⟩ | ⟨_, _, e⟩ | ⟨_, _, _, e⟩ | ⟨_, hr, hm, e⟩ | ⟨_, e⟩ | ⟨_, e⟩ | ⟨_, e⟩ | ⟨_, e⟩ | ⟨_, e⟩ | ⟨_, e⟩ | ⟨_, e⟩ |
    ⟨_, e⟩ := stepStage_cases s <;> rw [e] at h <;> cases h
  · exact .kept (.refl s)
  · exact .kept (ringKept_finish s)
  · exact .taken ((ringTaken_takeSnapshot hm hr).then_kept (ringKept_advance ..))
  · exact .kept ((ringKept_transientEvent s).trans (ringKept_advance ..))
  · exact .kept ((ringKept_windowEvent s).trans (ringKept_advance ..))
  · exact .kept ((ringKept_zeropadEvent s).trans (ringKept_advance ..))
  · exact .kept ((ringKept_fftEvent s).trans (ringKept_advance ..))
  · exact .kept ((ringKept_magEvent s).trans (ringKept_advance ..))
  · exact .kept ((ringKept_whitenEvent s).trans (ringKept_advance ..))
  · exact .kept ((ringKept_solveEvent s).trans (ringKept_advance ..))
  · exact .kept ((ringKept_publishEvent s).trans (ringKept_finish _))

theorem execPush_ring {ch : BitVec 8} (h : execPush ch s = .next t) : RingEvent s t := by
  obtain ⟨_, e⟩ | ⟨_, _, e⟩ | ⟨_, _, _, e⟩ | ⟨hm, _, _, e⟩ := execPush_cases ch s <;> rw [e] at h <;> cases h
  · exact .kept (.of_mem id rfl rfl rfl rfl rfl)
  · exact .kept (ringKept_rejectFrame ..)
  · exact .kept (ringKept_rejectFrame ..)
  · exact .commit (ringCommit_commitFrame hm)

theorem execNop_ring (h : execNop s = .next t) : RingEvent s t := by
  unfold execNop at h
  split at h
  · cases h; exact .kept (ringKept_raiseFault ..)
  · split at h <;> cases h
    · exact .kept (ringKept_raiseFault ..)
    · exact .kept (.refl s)

theorem execStart_ring (h : execStart s = .next t) : RingEvent s t := by
  obtain ⟨_, e⟩ | ⟨_, _, _, e⟩ | ⟨hm, _, e⟩ := execStart_cases s <;> rw [e] at h <;> cases h
  · exact .kept (ringKept_raiseFault ..)
  · exact .kept (ringKept_raiseFault ..)
  · exact .started hm (ringWindow_of_sessionMemory (startInit_mem s (latch s.cfg)))

theorem execClrfault_ring (h : execClrfault s = .next t) : RingEvent s t := by
  have hclear : RingKept s (clearFault s) := .of_mem id rfl rfl rfl rfl rfl
  unfold execClrfault at h
  split at h <;> cases h
  · exact .kept (hclear.trans (ringKept_requestTeardown _))
  · exact .kept hclear

theorem exec_ring {i : Instr} (h : exec i s = .next t) : RingEvent s t := by
  cases i with
  | push ch => exact execPush_ring h
  | nop => exact execNop_ring h
  | snapshot => exact execSnapshot_ring h
  | transient => cases h; exact .kept (ringKept_singleStage _ _ _ (ringKept_transientEvent s))
  | window => cases h; exact .kept (ringKept_singleStage _ _ _ (ringKept_windowEvent s))
  | zeropad => cases h; exact .kept (ringKept_singleStage _ _ _ (ringKept_zeropadEvent s))
  | fft => cases h; exact .kept (ringKept_singleStage _ _ _ (ringKept_fftEvent s))
  | mag => cases h; exact .kept (ringKept_singleStage _ _ _ (ringKept_magEvent s))
  | whiten => cases h; exact .kept (ringKept_singleStage _ _ _ (ringKept_whitenEvent s))
  | solve => cases h; exact .kept (ringKept_singleStage _ _ _ (ringKept_solveEvent s))
  | publish => cases h; exact .kept (ringKept_singleStage _ _ _ (ringKept_publishEvent s))
  | step =>
    simp only [exec, execStep] at h
    split at h
    · exact stepStage_ring h
    · cases h; exact .kept (ringKept_accept ..)
  | start => exact execStart_ring h
  | stop =>
    simp only [exec, execStop] at h
    split at h <;> cases h
    · exact .kept (ringKept_requestTeardown s)
    · exact .kept (.refl s)
  | clrfault => exact execClrfault_ring h
  | srst key =>
    simp only [exec, execSrst] at h
    split at h <;> cases h
    · exact .reset rfl
    · exact .kept (ringKept_raiseFault ..)

/-- `u` differs from `s` only in what is the launch's and not the block's: the schedule, the programs, the bus's answer and
the mark of a write outside its role (R149, R150, log 25). -/
def SameBlock (s u : State) : Prop :=
  u = { s with
    turns := u.turns, waitFrom := u.waitFrom, sched := u.sched, turn := u.turn
    hostProg := u.hostProg, producerProg := u.producerProg, readerProg := u.readerProg
    busData := u.busData, busError := u.busError, refusedMark := u.refusedMark }

/-- An event on the ring is the same whatever the launch's fields hold. -/
theorem RingEvent.of_sameBlock {u : State} (hu : SameBlock s u) (h : RingEvent u t) : RingEvent s t := by
  rw [hu] at h
  cases h with
  | kept h => exact .kept ⟨h.mode, h.w, h.r, h.ovrcnt, h.lag, h.ring⟩
  | commit h => exact .commit ⟨h.mode, h.w, h.cursor, h.ring⟩
  | taken h => exact .taken ⟨h.mode, h.available, h.w, h.r, h.ovrcnt, h.lag, h.ring⟩
  | started hm hring => exact .started hm hring
  | reset hm => exact .reset hm

theorem submit_ring {p : Port} {w : Word} (h : submit p w s = .next t) : RingEvent s t := by
  obtain ⟨i, _, e⟩ | ⟨_, _, e⟩ := submit_cases p w s <;> rw [e] at h
  · exact exec_ring h
  · cases h; exact .kept (ringKept_raiseFault ..)

theorem busWrite_ring {a : Addr} {size : Nat} {v : Word} (h : busWrite a size v s = .next t) : RingEvent s t := by
  have hanswer : SameBlock s (answer 0 s) := rfl
  obtain ⟨_, e⟩ | ⟨p, _, _, e⟩ | ⟨r, _, _, _, e⟩ | ⟨g, _, hl, e⟩ | ⟨_, _, e⟩ := busWrite_cases a size v s <;> rw [e] at h
  · cases h; exact .kept (ringKept_raiseBusError s a)
  · exact (submit_ring h).of_sameBlock hanswer
  · cases h; exact .of_sameBlock hanswer (.kept (ringKept_writeReg _ a r v))
  · cases h; exact .of_sameBlock hanswer (.kept (ringKept_writeElem (answer 0 s) hl v))
  · cases h; exact .kept (ringKept_raiseBusError s a)

theorem performOp_ring {who : Agent} {op : AgentOp} {rest : List AgentOp} (h : performOp who op rest s = .next t) :
    RingEvent s t := by
  obtain ⟨a, size, v, _, e⟩ | ⟨a, size, _, e⟩ | ⟨a, mask, val, _, e⟩ := performOp_cases who op rest s <;> rw [e] at h
  · refine (busWrite_ring h).of_sameBlock ?_
    rw [markRole_eq]
    cases who <;> rfl
  · cases h; exact .kept ((ringKept_setProg ..).trans (ringKept_busRead ..))
  · cases h
    split
    · exact .kept ((ringKept_busRead ..).trans (ringKept_setProg ..))
    · exact .kept (ringKept_busRead ..)

theorem sequencerEvent_ring (h : sequencerEvent s = .next t) : RingEvent s t := by
  obtain ⟨_, e⟩ | ⟨i, _, _, _, e⟩ | ⟨_, e⟩ := sequencerEvent_cases s <;> rw [e] at h
  · cases h; exact .kept (ringKept_startCommand ..)
  · exact exec_ring h
  · cases h

theorem agentEvent_ring {who : Agent} (h : agentEvent who s = .next t) : RingEvent s t := by
  unfold agentEvent at h
  split at h
  · exact sequencerEvent_ring h
  all_goals
    split at h
    · cases h; exact .kept (.refl s)
    · exact performOp_ring h

/-- What a step can do to the ring. -/
theorem step_ring (h : step s = .next t) : RingEvent s t := by
  obtain ⟨_, who, u, hc, hev⟩ := step_cases h
  obtain ⟨_, _, _, _, rfl⟩ := chooseAgent_some hc
  refine RingEvent.of_sameBlock ?_ (agentEvent_ring hev)
  rfl

end Events

/-! ### The count of steps -/

theorem avail_eq {s t : State} (hw : t.w = s.w) (hr : t.r = s.r) : t.avail = s.avail := by
  simp only [State.avail, State.lagSamples, hw, hr]

/-- A commit adds a step to AVAIL, or to the overruns where the ring is full (R94, R98). -/
theorem RingCommit.count {s t : State} (h : RingCommit s t) (hinv : CursorInv s) (hsat : s.ovrcnt.toNat < 2 ^ 32 - 1) :
    t.avail + t.ovrcnt.toNat = s.avail + s.ovrcnt.toNat + 1 := by
  have hmul := hinv.lag_multiple
  obtain ⟨hroom, hr, ho⟩ | ⟨hfull, hr, ho⟩ := h.cursor
  · have hlag : t.lagSamples = s.lagSamples + 128 := by
      simp only [State.lagSamples, h.w, hr] at hroom ⊢
      bv_omega
    simp only [State.avail, Config.step, hlag, ho] at hmul ⊢
    omega
  · have hlag : t.lagSamples = s.lagSamples := by simp only [State.lagSamples, h.w, hr]; bv_omega
    rw [ho, toNat_satInc, State.avail, State.avail, hlag]
    omega

/-- Settles O23: inside a session an event keeps the ring, commits a frame or is SNAPSHOT's completion. -/
theorem stepsAreConserved : Obligations.StepsAreConserved := by
  intro s t hinv hst hs ht hsat
  cases step_ring hst with
  | kept h => exact .inl ⟨h.w, by rw [avail_eq h.w h.r, h.ovrcnt]⟩
  | commit h => exact .inr (.inl ⟨h.w, h.count hinv hsat⟩)
  | taken h =>
    have hle := avail_le hinv
    refine .inr (.inr ⟨h.w, h.ovrcnt, ?empty, ?lag, ?some⟩)
    case empty => simp [State.avail, State.lagSamples, h.w, h.r]
    case lag => rw [h.lag, BitVec.toNat_ofNat]; omega
    case some => exact Nat.div_pos h.available (by decide)
  | started hm => exact absurd hm hs
  | reset hm => exact absurd hm ht

/-! ### The samples of a session -/

/-- Whatever a session has done, the newest 2048 samples of RING are the last it committed, +0.0 before them (R97, R126). -/
theorem ringWindow_of_history {xs : List Word} {s : State} (h : SessionHistory xs s) :
    s.ringWindow = (List.replicate 2048 0 ++ xs).drop xs.length := by
  have hnext (v : Word) : v + 128 ≠ v := by bv_omega
  induction h with
  | @started s t hst hs ht =>
    cases step_ring hst with
    | kept h => exact absurd (h.mode ht) (by simp [hs])
    | commit h => exact absurd h.mode (by simp [hs])
    | taken h => exact absurd h.mode (by simp [hs])
    | started _ hring => rwa [List.append_nil, List.length_nil, List.drop_zero]
    | reset hm => exact absurd hm (by simp [ht])
  | @committed xs s t _ hst hs ht hw ih =>
    cases step_ring hst with
    | kept h => exact absurd (hw.symm.trans h.w) (hnext _)
    | commit h =>
      rw [h.ring, ih, ← List.drop_append_of_le_length (by rw [List.length_append]; omega), List.drop_drop,
        List.append_assoc, List.length_append, length_stagedFrame]
    | taken h => exact absurd (hw.symm.trans h.w) (hnext _)
    | started hm => exact absurd hm (by simp [hs])
    | reset hm => exact absurd hm (by simp [ht])
  | @other xs s t _ hst hs ht hw ih =>
    cases step_ring hst with
    | kept h => rw [h.ring, ih]
    | commit h => exact absurd (h.w.symm.trans hw) (hnext _)
    | taken h => rw [h.ring, ih]
    | started hm => exact absurd hm hs
    | reset hm => exact absurd hm ht

/-- SNAPSHOT's completion puts the window of RING into WIN (R96). -/
theorem elems_takeSnapshot_win (s : State) : (takeSnapshot s).elems .win 0 2048 = s.ringWindow := by
  have h := s.mem.readWords_writeWords (Region.win.addr 0) s.ringWindow
  rwa [length_ringWindow] at h

theorem stepStage_takes {s : State} (hst : s.cstage = .snapshot) (hr : s.snapshotReady = true) (hm : s.mode = .running) :
    stepStage s = .next (advance .transient (takeSnapshot s)) := by
  simp [stepStage, hst, hr, hm]

/-- The completion, alone or as stage 1 of a STEP, fills WIN (R96, R121). -/
theorem exec_fills_win {s t : State} (hr : s.snapshotReady = true) (hm : s.mode = .running)
    (h : s.executing .snapshot = true ∧ exec .snapshot s = .next t ∨
      s.executing .step = true ∧ s.cstage = .snapshot ∧ exec .step s = .next t) :
    t.elems .win 0 2048 = s.ringWindow := by
  obtain ⟨he, h⟩ | ⟨he, hst, h⟩ := h
  · cases (execSnapshot_completes he hr hm).symm.trans h
    rw [State.elems, finish_mem]
    exact elems_takeSnapshot_win s
  · have hstage : exec .step s = stepStage s := if_pos he
    cases (hstage.trans (stepStage_takes hst hr hm)).symm.trans h
    exact elems_takeSnapshot_win s

/-- A step of the busy sequencer is its command's event, on the block as it is. -/
theorem exec_of_sequencerMoves {s t : State} (hmoves : s.sequencerMoves) (hb : s.cbusy = true) (hst : step s = .next t) :
    ∃ u, SameBlock s u ∧ u.turn = .sequencer ∧ ∀ i, decode .ccmd s.curcmd = .ok i → i ≠ .nop → exec i u = .next t := by
  obtain ⟨u, hc⟩ := hmoves
  refine ⟨{ u with turn := .sequencer }, ?_, rfl, fun i hd hi => (step_sequencer hc hb hd hi).symm.trans hst⟩
  obtain ⟨_, _, _, _, rfl⟩ := chooseAgent_some hc
  rfl

/-- Settles O22: the window of RING is the session's newest samples, and the completion copies it into WIN. -/
theorem roundTripLaw : Obligations.RoundTripLaw := by
  intro xs s t hist hmoves hb hcmd hm hlag hst
  obtain ⟨u, hu, hturn, hexec⟩ := exec_of_sequencerMoves hmoves hb hst
  have hready : u.snapshotReady = true := (snapshotReady_iff u).mpr (.inl (by rw [hu]; exact hlag))
  have hrun : u.mode = .running := by rw [hu]; exact hm
  have hbusy : u.cbusy = true := by rw [hu]; exact hb
  have hsame : u.curcmd = s.curcmd ∧ u.cstage = s.cstage ∧ u.ringWindow = s.ringWindow := by
    rw [hu]; exact ⟨rfl, rfl, rfl⟩
  obtain ⟨hucmd, hustage, huring⟩ := hsame
  rw [← ringWindow_of_history hist, ← huring]
  refine exec_fills_win hready hrun ?_
  obtain hcmd | ⟨hcmd, hstage⟩ := hcmd
  · have he : u.executing .snapshot = true := (State.executing_iff ..).mpr ⟨hturn, hbusy, hucmd.trans hcmd⟩
    exact .inl ⟨he, hexec .snapshot (by rw [hcmd]; decide) (by simp)⟩
  · have he : u.executing .step = true := (State.executing_iff ..).mpr ⟨hturn, hbusy, hucmd.trans hcmd⟩
    exact .inr ⟨he, hustage.trans hstage, hexec .step (by rw [hcmd]; decide) (by simp)⟩

end Sys2Proof.Machine
end

section
/-! SUPPORT. The spectral analyzer's stage events (R100 to R107): what each leaves in the arrays, the laws of the transform,
the scan for the dominant bin and the exact bin frequencies. -/

namespace Sys2Proof.Machine

/-! ### Runs of elements -/

theorem getElem_elems (s : State) (g : Region) (i n : Nat) {j : Nat} (hj : j < (s.elems g i n).length) :
    (s.elems g i n)[j] = s.elem g (i + j) := by
  simp only [State.elems, Memory.getElem_readWords, State.elem, Region.addr, Nat.mul_add, Nat.add_assoc]

/-- The first `n` elements of an array, as a list. -/
theorem elems_eq_map_range (s : State) (g : Region) (n : Nat) : s.elems g 0 n = (List.range n).map (s.elem g) :=
  List.ext_getElem (by simp) fun j _ _ => by simp [getElem_elems]

theorem elems_all (s : State) (g : Region) (n : Nat) (p : Word → Bool) :
    (s.elems g 0 n).all p = true ↔ ∀ j, j < n → p (s.elem g j) = true := by
  simp [elems_eq_map_range]

theorem elems_tail_all (s : State) (g : Region) (n : Nat) (p : Word → Bool) :
    (s.elems g 0 n).tail.all p = true ↔ ∀ j, 1 ≤ j → j < n → p (s.elem g j) = true := by
  cases n with
  | zero => simp [elems_eq_map_range]
  | succ n =>
    simp only [elems_eq_map_range, List.range_succ_eq_map, List.map_cons, List.map_map, List.tail_cons, List.all_map,
      List.all_eq_true, List.mem_range, Function.comp_apply]
    refine ⟨fun h j hlo hhi => ?_, fun h j hj => h (j + 1) (by omega) (by omega)⟩
    obtain ⟨j, rfl⟩ := Nat.exists_eq_add_of_le' hlo
    exact h j (by omega)

theorem elems_headD (s : State) (g : Region) {n : Nat} (hn : 0 < n) : (s.elems g 0 n).headD 0 = s.elem g 0 := by
  obtain ⟨n, rfl⟩ := Nat.exists_eq_succ_of_ne_zero hn.ne'
  simp [elems_eq_map_range, List.range_succ_eq_map]

/-! ### A stage's event and its `finish()` -/

/-- A stage in the sequencer's event answers what its own event leaves, finished (R119). -/
theorem next_singleStage {i : Instr} {s : State} (h : s.executing i = true) (st : Stage) (event : State → State) :
    (.next (singleStage i st event s) : Host.Outcome State Fault Refusal) = .next (finish (event s)) :=
  congrArg _ (if_pos h)

/-- An element of a whole array stored at once. -/
theorem elem_setElems_zero (s : State) (g : Region) {ws : List Word} {j : Nat} (hj : j < ws.length) :
    (s.setElems g 0 ws).elem g j = ws[j] := by
  have h := elem_setElems s g 0 hj
  rwa [Nat.zero_add] at h

@[simp] theorem finish_elem (s : State) (g : Region) (i : Nat) : (finish s).elem g i = s.elem g i := by
  rw [State.elem, finish_mem, State.elem]

/-- An event that writes the arrays only, then `finish()`. -/
theorem finish_of_memory (s : State) (m : Memory) :
    Finished 0 s (finish { s with mem := m }) ∧ SameAround s (finish { s with mem := m }) ∧
      SameDatapath s (finish { s with mem := m }) := by
  refine ⟨finished_finish rfl (by simp), ?_, ?_⟩
  all_goals rw [finish_frame]; constructor <;> constructor <;> rfl

theorem sameBytesOutside_setElems (s : State) (g : Region) (i : Nat) {ws : List Word} {n : Nat} (hn : ws.length = n) :
    SameBytesOutside s (finish (s.setElems g i ws)) g i n := by
  intro a ha
  rw [finish_mem, setElems_mem]
  exact Memory.readByte_writeWords_outside _ _ (by rwa [hn])

/-- Settles O24: PAD[n] is the stored product. -/
theorem windowMultiplies : Obligations.WindowMultiplies := by
  intro s he
  refine ⟨_, next_singleStage he .window windowEvent, fun n hn => ?product,
    sameBytesOutside_setElems s .pad 0 (by simp), finish_of_memory s _⟩
  case product =>
    rw [finish_elem, windowEvent, elem_setElems_zero s .pad (by simpa using hn)]
    simp [getElem_elems, Config.winLen]

/-- Settles O25: the words stored are all +0.0. -/
theorem zeropadClears : Obligations.ZeropadClears := by
  intro s he
  refine ⟨_, next_singleStage he .zeropad zeropadEvent, fun n hlo hhi => ?zero,
    sameBytesOutside_setElems s .pad _ (by simp), finish_of_memory s _⟩
  case zero =>
    obtain ⟨j, rfl⟩ := Nat.exists_eq_add_of_le hlo
    rw [finish_elem, zeropadEvent, elem_setElems s .pad _ (by rw [List.length_replicate]; omega)]
    exact List.getElem_replicate _

/-- Settles O27: MAG[k] is the stored modulus. -/
theorem magTakesTheModulus : Obligations.MagTakesTheModulus := by
  intro s he
  refine ⟨_, next_singleStage he .mag magEvent, fun k hk => ?modulus,
    sameBytesOutside_setElems s .mag 0 (by simp), finish_of_memory s _⟩
  case modulus =>
    rw [finish_elem, magEvent, elem_setElems_zero s .mag (by simpa using hk)]
    simp [getElem_elems, modulus]

/-! ### The laws of the transform (R103) -/

theorem isZero_freeZero (w : Word) : isZero (freeZero w) = true := by
  rw [isZero, freeZero, fbits_fpack (by decide)]; rfl

/-- Clearing the low bit of the exponent field leaves a finite pattern. -/
theorem isFinite_freeFinite (w : Word) : isFinite (freeFinite w) = true := by
  unfold freeFinite
  split
  · assumption
  · have hbit : (w &&& 0xFF7FFFFF).toNat.testBit 23 = false := by
      rw [BitVec.toNat_and, Nat.testBit_and]; simp [Nat.testBit]
    rw [Nat.testBit_eq_decide_div_mod_eq, decide_eq_false_iff_not] at hbit
    rw [isFinite, decide_eq_true_eq, fbits, infBits]
    omega

/-- Law (b) of R103. -/
theorem fftBin_zero {n : Nat} {x : List Word} (h : x.all isZero = true) (k : Nat) :
    isZero (fftBin n x k).1 = true ∧ isZero (fftBin n x k).2 = true := by
  rw [fftBin, if_pos h]
  exact ⟨isZero_freeZero _, isZero_freeZero _⟩

theorem all_isFinite_of_impulse {x : List Word} (h0 : isFinite (x.headD 0) = true) (h : x.tail.all isZero = true) :
    x.all isFinite = true := by
  cases x with
  | nil => rfl
  | cons a x =>
    rw [List.all_cons, Bool.and_eq_true]
    exact ⟨h0, List.all_eq_true.mpr fun w hw => isFinite_of_isZero (List.all_eq_true.mp h w hw)⟩

theorem isZero_headD {x : List Word} (h : x.all isZero = true) : isZero (x.headD 0) = true := by
  cases x with
  | nil => rfl
  | cons a x => exact List.all_eq_true.mp h a (by simp)

/-- Law (c) of R103; where the impulse is itself a zero, law (b) answers (log 5). -/
theorem fftBin_impulse {n : Nat} {x : List Word} (h0 : isFinite (x.headD 0) = true) (h : x.tail.all isZero = true)
    (k : Nat) :
    ((fftBin n x k).1 = x.headD 0 ∨ (isZero (x.headD 0) = true ∧ isZero (fftBin n x k).1 = true)) ∧
      isZero (fftBin n x k).2 = true := by
  by_cases hz : x.all isZero = true
  · obtain ⟨hre, him⟩ := fftBin_zero (n := n) hz k
    exact ⟨.inr ⟨isZero_headD hz, hre⟩, him⟩
  · rw [fftBin, if_neg hz, if_pos (all_isFinite_of_impulse h0 h), if_pos h]
    exact ⟨.inl rfl, isZero_freeZero _⟩

/-- Law (d) of R103. -/
theorem fftBin_dc {n : Nat} {x : List Word} (h : x.all isFinite = true) : isZero (fftBin n x 0).2 = true := by
  unfold fftBin
  split
  · exact isZero_freeZero _
  · split <;> exact isZero_freeZero _

/-- Law (e) of R103. -/
theorem fftBin_finite {n : Nat} {x : List Word} (h : x.all isFinite = true) (hsum : (x.map fmag).sum < 2 ^ 276) (k : Nat) :
    isFinite (fftBin n x k).1 = true ∧ isFinite (fftBin n x k).2 = true := by
  have hb : sumBounded x = true := decide_eq_true hsum
  have hfree (w : Word) : isFinite (freeZero w) = true := isFinite_of_isZero (isZero_freeZero w)
  unfold fftBin
  split
  · exact ⟨hfree _, hfree _⟩
  · split
    · refine ⟨?_, hfree _⟩
      cases x with
      | nil => rfl
      | cons a x => exact List.all_eq_true.mp h a (by simp)
    · refine ⟨isFinite_freeFinite _, ?_⟩
      split
      · exact hfree _
      · exact isFinite_freeFinite _

theorem length_fftImpl (l : Latched) (x : List Word) : (fftImpl l.nfftN x).length = l.bins := by
  simp [fftImpl, Latched.bins]

theorem getElem_fftImpl (n : Nat) (x : List Word) {k : Nat} (hk : k < (fftImpl n x).length) :
    (fftImpl n x)[k] = fftBin n x k := by
  simp [fftImpl]

theorem elem_fftEvent_xre (s : State) {k : Nat} (hk : k < s.lat.bins) :
    (fftEvent s).elem .xre k = (fftBin s.lat.nfftN (s.elems .pad 0 s.lat.nfftN) k).1 := by
  have hb := s.lat.bins_le
  have hstored : k < ((fftImpl s.lat.nfftN (s.elems .pad 0 s.lat.nfftN)).map Prod.fst).length := by
    rwa [List.length_map, length_fftImpl]
  rw [fftEvent, elem_setElems_outside _ (.inl (by simp only [Region.addr, Region.base]; omega)),
    elem_setElems_zero s .xre hstored, List.getElem_map, getElem_fftImpl]

theorem elem_fftEvent_xim (s : State) {k : Nat} (hk : k < s.lat.bins) :
    (fftEvent s).elem .xim k = (fftBin s.lat.nfftN (s.elems .pad 0 s.lat.nfftN) k).2 := by
  have hstored : k < ((fftImpl s.lat.nfftN (s.elems .pad 0 s.lat.nfftN)).map Prod.snd).length := by
    rwa [List.length_map, length_fftImpl]
  rw [fftEvent, elem_setElems_zero _ .xim hstored, List.getElem_map, getElem_fftImpl]

theorem readByte_fftEvent_outside (s : State) {a : Nat}
    (h : a < Region.addr .xre 0 ∨ (Region.addr .xre s.lat.bins ≤ a ∧ a < Region.addr .xim 0) ∨
      Region.addr .xim s.lat.bins ≤ a) : (fftEvent s).mem.readByte a = s.mem.readByte a := by
  have hb := s.lat.bins_le
  simp only [Region.addr, Region.base] at h
  rw [fftEvent, setElems_mem, setElems_mem, Memory.readByte_writeWords_outside, Memory.readByte_writeWords_outside]
  all_goals
    rw [List.length_map, length_fftImpl]
    simp only [Region.addr, Region.base]
    omega

/-- Settles O26: each law is the law of the bin, read at the inputs in PAD. -/
theorem transformObeysItsLaws : Obligations.TransformObeysItsLaws := by
  intro s he
  have hn : 0 < s.lat.nfftN := by rw [Latched.nfftN]; cases s.lat.nfft <;> decide
  have hre {k : Nat} (hk : k < s.lat.bins) := (finish_elem _ _ _).trans (elem_fftEvent_xre s hk)
  have him {k : Nat} (hk : k < s.lat.bins) := (finish_elem _ _ _).trans (elem_fftEvent_xim s hk)
  refine ⟨_, next_singleStage he .fft fftEvent, fun hz k hk => ?zero, fun h0 hz k hk => ?impulse,
    fun hf => ?dc, fun hf hsum k hk => ?finite, fun a ha => ?outside, ?_⟩
  case zero =>
    rw [hre hk, him hk]
    exact fftBin_zero ((elems_all ..).mpr hz) k
  case impulse =>
    rw [hre hk, him hk, ← elems_headD s .pad hn]
    exact fftBin_impulse (by rwa [elems_headD s .pad hn]) ((elems_tail_all ..).mpr hz) k
  case dc =>
    rw [him (Nat.succ_pos _)]
    exact fftBin_dc ((elems_all ..).mpr hf)
  case finite =>
    rw [hre hk, him hk]
    refine fftBin_finite ((elems_all ..).mpr hf) ?_ k
    rw [elems_eq_map_range, List.map_map]
    simpa only [Nat.reduceAdd, Function.comp_def] using hsum
  case outside =>
    rw [finish_mem]
    exact readByte_fftEvent_outside s ha
  obtain ⟨hfin, haround, hdata⟩ := finish_of_memory s (fftEvent s).mem
  refine ⟨hfin, haround, hdata, fun s' t' he' hlat hpad ht k hk => ?_⟩
  obtain rfl := Host.Outcome.next.inj ((next_singleStage he' .fft fftEvent).symm.trans ht)
  have hnfft : s'.lat.nfftN = s.lat.nfftN := by rw [Latched.nfftN, hlat, Latched.nfftN]
  have hk' : k < s'.lat.bins := by rwa [Latched.bins, hnfft]
  have hin : s'.elems .pad 0 s'.lat.nfftN = s.elems .pad 0 s.lat.nfftN := by
    rw [hnfft, elems_eq_map_range, elems_eq_map_range]
    exact List.map_congr_left fun j hj => hpad j (List.mem_range.mp hj)
  rw [hre hk, him hk, finish_elem, finish_elem, elem_fftEvent_xre s' hk', elem_fftEvent_xim s' hk', hin, hnfft]
  exact ⟨rfl, rfl⟩

/-! ### The dominant bin -/

theorem fgt_asymm {a b : Word} (h : fgt a b = true) : fgt b a = false := by
  rw [← Bool.not_eq_true]
  exact fun h' => lt_asymm ((fgt_iff ..).mp h).2.2 ((fgt_iff ..).mp h').2.2

/-- What is greater than a number is greater than every number that is not greater than it. -/
theorem isNaN_or_fgt_of_not_fgt {a b c : Word} (hab : fgt a b = false) (hcb : fgt c b = true) :
    isNaN a = true ∨ fgt c a = true := by
  rw [← Bool.not_eq_true, fgt_iff] at hab
  obtain ⟨hc, hb, hlt⟩ := (fgt_iff ..).mp hcb
  cases ha : isNaN a with
  | true => exact .inl rfl
  | false => exact .inr ((fgt_iff ..).mpr ⟨hc, ha, (not_lt.mp fun h => hab ⟨ha, hb, h⟩).trans_lt hlt⟩)

/-- The scan's comparison of bin `k` with the best of the bins below it. -/
theorem IsPeak.step {v : Nat → Word} {k best : Nat} (h : IsPeak v k best) :
    IsPeak v (k + 1) (if fgt (v k) (v best) then k else best) := by
  obtain ⟨hrange, hnan, hnumber, hlargest, hlowest⟩ := h
  split
  · next hgt =>
    obtain ⟨hk, hbest, _⟩ := (fgt_iff ..).mp hgt
    have hbelow (hf : isNaN (v 1) = false) (j : Nat) (h1 : 1 ≤ j) (hj : j < k) :=
      isNaN_or_fgt_of_not_fgt (hlargest hf j h1 hj) hgt
    refine ⟨by omega, fun hn => ?first, fun _ => hk, fun hf j h1 hj => ?largest, hbelow⟩
    case first =>
      rw [hnan hn, hn] at hbest
      exact absurd hbest (by simp)
    case largest =>
      obtain hj | rfl := Nat.lt_succ_iff_lt_or_eq.mp hj
      · exact (hbelow hf j h1 hj).elim (fun hn => fgt_of_isNaN_left hn _) fgt_asymm
      · exact fgt_irrefl _
  · next hgt =>
    refine ⟨by omega, hnan, hnumber, fun hf j h1 hj => ?_, hlowest⟩
    obtain hj | rfl := Nat.lt_succ_iff_lt_or_eq.mp hj
    · exact hlargest hf j h1 hj
    · simpa using hgt

theorem isPeak_two (v : Nat → Word) : IsPeak v 2 1 where
  range := by omega
  nan_first _ := rfl
  number h := h
  largest _ j h1 hj := by
    obtain rfl : j = 1 := by omega
    exact fgt_irrefl _
  lowest _ j h1 hj := by omega

theorem isPeak_argmaxScan (xs : List Word) {k best : Nat} (hk : k ≤ xs.length)
    (h : IsPeak (fun j => xs.getD j 0) k best) :
    IsPeak (fun j => xs.getD j 0) xs.length (argmaxScan (xs.drop k) k best (xs.getD best 0)) := by
  obtain rfl | hk := hk.eq_or_lt
  · rw [List.drop_length, argmaxScan]; exact h
  · have ih := isPeak_argmaxScan xs hk h.step
    rw [List.drop_eq_getElem_cons hk, argmaxScan, ← List.getD_eq_getElem xs 0 hk]
    split
    · next hgt => rwa [if_pos hgt] at ih
    · next hgt => rwa [if_neg hgt] at ih
termination_by xs.length - k

/-- The argmax is the peak of R106 and R111. -/
theorem isPeak_argmax {xs : List Word} (h : 2 ≤ xs.length) : IsPeak (fun j => xs.getD j 0) xs.length (argmax xs) :=
  isPeak_argmaxScan xs h (isPeak_two _)

/-- A peak depends on the bins above DC only. -/
theorem IsPeak.congr {v w : Nat → Word} {bins k : Nat} (h : IsPeak v bins k) (hvw : ∀ j, j < bins → v j = w j) :
    IsPeak w bins k := by
  obtain ⟨⟨h1, hk⟩, hnan, hnumber, hlargest, hlowest⟩ := h
  rw [hvw 1 (by omega)] at hnan hnumber hlargest hlowest
  rw [hvw k hk] at hnumber hlargest hlowest
  refine ⟨⟨h1, hk⟩, hnan, hnumber, fun hf j hj1 hj => ?_, fun hf j hj1 hj => ?_⟩
  · rw [← hvw j hj]; exact hlargest hf j hj1 hj
  · rw [← hvw j (by omega)]; exact hlowest hf j hj1 hj

/-! ### Whitening (R105, R106) -/

/-- The floor WHITEN divides by (R105). -/
def State.whitenFloor (s : State) : Word :=
  fclampmin (floorEstimate s.wfirst s.wfloor s.cfg.walpha (meanMag (s.elems .mag 0 s.lat.bins) s.lat.bins)) s.cfg.weps

/-- The whitened spectrum (R105). -/
def State.whitened (s : State) : List Word := (s.elems .mag 0 s.lat.bins).map fun m => fdiv m s.whitenFloor

theorem whitenEvent_eq (s : State) : whitenEvent s =
    { s.setElems .wht 0 s.whitened with
      wfirst := false, wfloor := s.whitenFloor, wDombin := BitVec.ofNat 32 (argmax s.whitened),
      wDomf := fmul (f32 (argmax s.whitened)) s.lat.delta } := rfl

@[simp] theorem length_whitened (s : State) : s.whitened.length = s.lat.bins := by simp [State.whitened]

theorem elem_whitenEvent (s : State) {k : Nat} (hk : k < s.lat.bins) :
    (whitenEvent s).elem .wht k = s.whitened[k]'(by simpa using hk) :=
  elem_setElems_zero s .wht (by simpa using hk)

theorem meanMag_elems (s : State) (n : Nat) : meanMag (s.elems .mag 0 n) n =
    fdiv ((List.range n).foldl (fun acc k => fadd acc (s.elem .mag k)) 0) (f32 n) := by
  rw [meanMag, elems_eq_map_range, List.foldl_map]

/-- Settles O28: the floor is the model's own, and the scan's bin is the peak. -/
theorem whitenFollowsItsRule : Obligations.WhitenFollowsItsRule := by
  intro s he e f d
  have hd : s.whitenFloor = d := by rw [State.whitenFloor, meanMag_elems, floorEstimate, fclampmin]
  have hb : 2 ≤ s.lat.bins := by rw [Latched.bins, Latched.nfftN]; cases s.lat.nfft <;> decide
  have hb' := s.lat.bins_le
  have helem {k : Nat} (hk : k < s.lat.bins) := (finish_elem _ _ _).trans (elem_whitenEvent s hk)
  have hpeak := isPeak_argmax (xs := s.whitened) (by simpa using hb)
  rw [length_whitened] at hpeak
  refine ⟨_, next_singleStage he .whiten whitenEvent, ?floor, ?_, fun k hk => ?whitened,
    ⟨argmax s.whitened, hpeak.congr fun j hj => ?peak, ?bin, ?_⟩, fun a ha => ?bytes,
    finished_finish rfl (by simp), ?_⟩
  case whitened => rw [helem hk, ← hd]; simp [State.whitened, getElem_elems]
  case peak => rw [helem hj]; exact List.getD_eq_getElem ..
  case bytes =>
    rw [finish_mem]
    exact Memory.readByte_writeWords_outside _ s.whitened (by rwa [length_whitened])
  all_goals rw [finish_frame, whitenEvent_eq]
  case floor => exact hd
  case bin =>
    have hk := hpeak.range.2
    rw [BitVec.toNat_ofNat]
    omega
  refine ⟨?_, ?_, ?_, ?_, ?_⟩
  · constructor <;> constructor <;> rfl
  all_goals constructor <;> rfl

/-! ### The bin frequencies (R107) -/

/-- Every number of at most 24 bits over a power of two within range has a finite pattern. -/
theorem exists_bits_of_scaled {n e : Nat} (hn : n ≤ 2 ^ 24) (he : e ≤ 252) :
    ∃ k, k < infBits ∧ unitsOfBits k = n * 2 ^ e := by
  induction e generalizing n with
  | zero => exact ⟨0 * 2 ^ 23 + n, by unfold infBits; omega, unitsOfBits_fields (.inl rfl) hn⟩
  | succ e ih =>
    by_cases hbig : 2 ^ 23 ≤ n
    · exact ⟨(e + 1) * 2 ^ 23 + n, by unfold infBits; omega, unitsOfBits_fields (.inr hbig) hn⟩
    · obtain ⟨k, hk, hunits⟩ := ih (n := 2 * n) (by omega) (by omega)
      exact ⟨k, hk, by rw [hunits, Nat.pow_succ]; ring⟩

/-- A product with a finite pattern is that pattern. -/
theorem fmul_exact {a b : Word} {k : Nat} (ha : isFinite a = true) (hb : isFinite b = true) (hk : k < infBits)
    (h : fmag a * fmag b = unitsOfBits k * 2 ^ 149) : fmul a b = fpack (fsign a ^^ fsign b) k := by
  rw [fmul_of_isFinite ha hb]
  refine rne32_exact (by positivity) hk ?_
  rw [h, Nat.mul_assoc, show 298 = 149 + 149 from rfl, Nat.pow_add 2 149 149]

/-- `Δ` is 375 units of 2^-4 or 2^-5 (R8). -/
theorem delta_exact (l : Latched) : isFinite l.delta = true ∧ fsign l.delta = false ∧
    ∃ e, e ≤ 149 ∧ fmag l.delta = 375 * 2 ^ e ∧ 375 * 2 ^ e * l.nfftN = 48000 * 2 ^ 149 := by
  unfold Latched.delta Latched.nfftN
  cases l.nfft with
  | len2048 => exact ⟨by decide, by decide, 145, by decide, by decide, by decide⟩
  | len4096 => exact ⟨by decide, by decide, 144, by decide, by decide, by decide⟩

/-- Settles O29: `k·375` has at most 24 bits, so the product is exact. -/
theorem binFrequenciesAreExact : Obligations.BinFrequenciesAreExact := by
  intro l k hk
  obtain ⟨hfin, hsign, e, he, hmag, hunits⟩ := delta_exact l
  have hb := l.bins_le
  obtain ⟨hkfin, hkval⟩ := f32_exact (n := k) (by omega)
  have hksign : fsign (f32 k) = false := fsign_rne32 ..
  have hkmag : fmag (f32 k) = k * 2 ^ 149 := by
    rw [fval_eq, hksign] at hkval
    exact_mod_cast (one_mul (fmag (f32 k) : Int)).symm.trans hkval
  obtain ⟨m, hm, hmunits⟩ := exists_bits_of_scaled (n := k * 375) (e := e) (by omega) (by omega)
  have hprod : fmul (f32 k) l.delta = fpack false m := by
    rw [fmul_exact hkfin hfin hm (by rw [hkmag, hmag, hmunits]; ring), hksign, hsign]; rfl
  have hlt := hm.trans infBits_lt
  rw [hprod, isFinite, fbits_fpack hlt, fval_fpack hlt, hmunits]
  refine ⟨by simpa using hm, ?_⟩
  have hval : k * 375 * 2 ^ e * l.nfftN = k * 48000 * 2 ^ 149 := by
    rw [Nat.mul_assoc, Nat.mul_assoc, Nat.mul_assoc k, ← hunits]; ring
  rw [signOf, if_neg (by decide), one_mul]
  exact_mod_cast hval

end Sys2Proof.Machine
end

section
/-! SUPPORT. The fixed-point cosines of the window table (R99, log 14) against the real ones: the series at one angle, then
the run of its multiples by the recurrence, whose errors grow with the square of the number of steps only. -/

namespace Sys2Proof.Machine

open Finset (range sum_range_succ')

/-! ### Fixed point as real numbers -/

theorem abs_mul_le_of_le {a b A B : ℝ} (ha : |a| ≤ A) (hb : |b| ≤ B) : |a * b| ≤ A * B := by
  rw [abs_mul]; exact mul_le_mul ha hb (abs_nonneg _) ((abs_nonneg _).trans ha)

/-- The real number a fixed-point number stands for. -/
noncomputable def fixVal (a : Int) : ℝ := a / 2 ^ 192

/-- One unit of fixed point. -/
noncomputable def fixUnit : ℝ := 1 / 2 ^ 192

theorem fixUnit_pos : 0 < fixUnit := by unfold fixUnit; positivity

theorem fixUnit_le_half : fixUnit ≤ 1 / 2 := by unfold fixUnit; norm_num

@[simp] theorem fixVal_add (a b : Int) : fixVal (a + b) = fixVal a + fixVal b := by simp only [fixVal]; push_cast; ring

@[simp] theorem fixVal_sub (a b : Int) : fixVal (a - b) = fixVal a - fixVal b := by simp only [fixVal]; push_cast; ring

@[simp] theorem fixVal_neg (a : Int) : fixVal (-a) = -fixVal a := by simp only [fixVal]; push_cast; ring

theorem fixVal_mul (n a : Int) : fixVal (n * a) = n * fixVal a := by simp only [fixVal]; push_cast; ring

@[simp] theorem fixVal_zero : fixVal 0 = 0 := by simp [fixVal]

@[simp] theorem fixVal_fixOne : fixVal fixOne = 1 := by norm_num [fixVal, fixOne]

/-- A whole quotient is off by less than one unit. -/
theorem fixVal_ediv (a : Int) {d : Int} (hd : 0 < d) : |fixVal (a / d) - fixVal a / d| ≤ fixUnit := by
  have hdR : (0 : ℝ) < d := by exact_mod_cast hd
  have hlow : ((a / d : Int) : ℝ) * d ≤ a := by exact_mod_cast Int.ediv_mul_le a hd.ne'
  have hhigh : (a : ℝ) < (((a / d : Int) : ℝ) + 1) * d := by exact_mod_cast Int.lt_ediv_add_one_mul_self a hd
  have hq : |((a / d : Int) : ℝ) - a / d| ≤ 1 := by
    have h1 := (le_div_iff₀ hdR).mpr hlow
    have h2 := (div_lt_iff₀ hdR).mpr hhigh
    rw [abs_le]
    constructor <;> linarith
  have hscale : fixVal (a / d) - fixVal a / d = (((a / d : Int) : ℝ) - a / d) * fixUnit := by
    simp only [fixVal, fixUnit]; ring
  rw [hscale, abs_mul, abs_of_pos fixUnit_pos]
  exact mul_le_of_le_one_left fixUnit_pos.le hq

theorem fixVal_fixMul (a b : Int) : |fixVal (fixMul a b) - fixVal a * fixVal b| ≤ fixUnit := by
  have h := fixVal_ediv (a * b) (d := fixOne) (by decide)
  have hprod : fixVal (a * b) / (fixOne : Int) = fixVal a * fixVal b := by
    simp only [fixVal, fixOne]; push_cast; ring
  rwa [hprod] at h

/-! ### The series -/

/-- Term `j` of the cosine series at `y`. -/
noncomputable def cosTerm (y : ℝ) (j : Nat) : ℝ := (-1) ^ j * (y ^ (2 * j) / (2 * j).factorial)

theorem cosTerm_zero (y : ℝ) : cosTerm y 0 = 1 := by simp [cosTerm]

theorem cosTerm_succ (y : ℝ) (j : Nat) :
    cosTerm y (j + 1) = -(cosTerm y j * y ^ 2) / ((2 * (j : ℝ) + 1) * (2 * j + 2)) := by
  have hfact : ((2 * (j + 1)).factorial : ℝ) = (2 * (j : ℝ) + 2) * ((2 * j + 1) * (2 * j).factorial) := by
    rw [show 2 * (j + 1) = 2 * j + 1 + 1 by ring, Nat.factorial_succ, Nat.factorial_succ]
    push_cast; ring
  simp only [cosTerm, hfact]
  field_simp
  ring

/-- The magnitudes of the terms fall where the angle is at most 1. -/
theorem antitone_cosTerm {y : ℝ} (hy : |y| ≤ 1) : Antitone fun j : Nat => y ^ (2 * j) / ((2 * j).factorial : ℝ) := by
  have hsq : y ^ 2 ≤ 1 := (sq_le_one_iff_abs_le_one y).mpr hy
  refine antitone_nat_of_succ_le fun j => ?_
  have hpow : y ^ (2 * (j + 1)) ≤ y ^ (2 * j) := by
    rw [pow_mul, pow_mul]; exact pow_le_pow_of_le_one (sq_nonneg y) hsq j.le_succ
  have hnonneg : 0 ≤ y ^ (2 * j) := by rw [pow_mul]; positivity
  exact div_le_div₀ hnonneg hpow (by positivity) (by exact_mod_cast Nat.factorial_le (by omega))

theorem abs_cosTerm_le {y : ℝ} (hy : |y| ≤ 1) (j : Nat) : |cosTerm y j| ≤ 1 := by
  have hnonneg : 0 ≤ y ^ (2 * j) / ((2 * j).factorial : ℝ) := by rw [pow_mul]; positivity
  rw [cosTerm, abs_mul, abs_pow, abs_neg, abs_one, one_pow, one_mul, abs_of_nonneg hnonneg]
  simpa using antitone_cosTerm hy j.zero_le

/-- The series alternates, so 20 terms leave less than the next one. -/
theorem cos_sub_series {y : ℝ} (hy : |y| ≤ 1) : |Real.cos y - ∑ j ∈ range 20, cosTerm y j| ≤ 1 / 2 ^ 152 := by
  have hlim := (Real.hasSum_cos y).tendsto_sum_nat
  simp only [mul_div_assoc] at hlim
  have hlow := (antitone_cosTerm hy).alternating_series_le_tendsto hlim 10
  have hhigh := (antitone_cosTerm hy).tendsto_le_alternating_series hlim 10
  change ∑ j ∈ range 20, cosTerm y j ≤ Real.cos y at hlow
  change Real.cos y ≤ ∑ j ∈ range (20 + 1), cosTerm y j at hhigh
  rw [Finset.sum_range_succ] at hhigh
  have hlast : cosTerm y 20 ≤ 1 / 2 ^ 152 := by
    have hpow : y ^ (2 * 20) ≤ 1 := by
      rw [pow_mul]; exact pow_le_one₀ (sq_nonneg y) ((sq_le_one_iff_abs_le_one y).mpr hy)
    have hfact : (2 : ℝ) ^ 152 ≤ (2 * 20).factorial := by exact_mod_cast (by decide : 2 ^ 152 ≤ (2 * 20).factorial)
    rw [cosTerm, Even.neg_one_pow (by decide), one_mul]
    exact div_le_div₀ zero_le_one hpow (by positivity) hfact
  rw [abs_of_nonneg (by linarith)]
  linarith

section Series
variable {x2 : Int} {y : ℝ} (hy : |y| ≤ 1) (hsq : |fixVal x2 - y ^ 2| ≤ fixUnit)
include hy hsq

/-- A term eight units off is followed by one eight units off: the division by at least 2 outweighs the rounding. -/
theorem cosTerms_step {j : Nat} {term : Int} (h : |fixVal term - cosTerm y j| ≤ 8 * fixUnit) :
    |fixVal (-(fixMul term x2) / ((2 * (j : Int) + 1) * (2 * j + 2))) - cosTerm y (j + 1)| ≤ 8 * fixUnit := by
  have hd : (0 : Int) < (2 * (j : Int) + 1) * (2 * j + 2) := by positivity
  have hquot := fixVal_ediv (-(fixMul term x2)) hd
  have hprod := fixVal_fixMul term x2
  have hT := abs_cosTerm_le hy j
  have hx2 : |fixVal x2| ≤ 3 / 2 := by
    have := (sq_le_one_iff_abs_le_one y).mpr hy
    have := fixUnit_le_half
    have := sq_nonneg y
    rw [abs_le] at *
    constructor <;> linarith
  rw [cosTerm_succ]
  push_cast [fixVal_neg] at hquot
  generalize hD : (2 * (j : ℝ) + 1) * (2 * j + 2) = D at *
  have hD2 : 2 ≤ D := by rw [← hD]; nlinarith [Nat.cast_nonneg (α := ℝ) j]
  have hnum : |fixVal (fixMul term x2) - cosTerm y j * y ^ 2| ≤ 14 * fixUnit := by
    have h1 := abs_mul_le_of_le h hx2
    have h2 := abs_mul_le_of_le hT hsq
    rw [abs_le] at *
    constructor <;> linarith
  have hdiv : |(fixVal (fixMul term x2) - cosTerm y j * y ^ 2) / D| ≤ 7 * fixUnit := by
    rw [abs_div, abs_of_pos (by linarith : 0 < D), div_le_iff₀ (by linarith)]
    nlinarith [fixUnit_pos]
  have hsplit : -fixVal (fixMul term x2) / D - -(cosTerm y j * y ^ 2) / D =
      -((fixVal (fixMul term x2) - cosTerm y j * y ^ 2) / D) := by ring
  rw [abs_le] at *
  constructor <;> linarith

theorem cosTerms_near (n : Nat) {j : Nat} {term : Int} (h : |fixVal term - cosTerm y j| ≤ 8 * fixUnit) :
    |fixVal (cosTerms x2 n j term) - ∑ i ∈ range n, cosTerm y (j + i)| ≤ n * (8 * fixUnit) := by
  induction n generalizing j term with
  | zero => simp [cosTerms]
  | succ n ih =>
    have hrest := ih (cosTerms_step hy hsq h)
    have hshift (i : Nat) : cosTerm y (j + (i + 1)) = cosTerm y (j + 1 + i) := by congr 1; omega
    rw [cosTerms, fixVal_add, sum_range_succ', Nat.add_zero]
    simp only [hshift]
    push_cast at hrest ⊢
    rw [abs_le] at *
    constructor <;> linarith

end Series

/-- The error of a fixed-point number taken as the cosine of an angle. -/
noncomputable def cosErr (a : Int) (x : ℝ) : ℝ := fixVal a - Real.cos x

/-- The model's cosine of a small angle. -/
theorem fixCos_near {x : Int} (hx : |fixVal x| ≤ 1) : |cosErr (fixCos x) (fixVal x)| ≤ 1 / 2 ^ 150 := by
  have hsq := fixVal_fixMul x x
  rw [← pow_two] at hsq
  have hsum := cosTerms_near hx hsq 20 (j := 0) (term := fixOne) (by simp [cosTerm_zero, fixUnit_pos.le])
  have htail := cos_sub_series hx
  have hunit : 160 * fixUnit ≤ 1 / 2 ^ 152 := by unfold fixUnit; norm_num
  simp only [Nat.zero_add, Nat.cast_zero] at hsum
  change |fixVal (fixCos x) - _| ≤ _ at hsum
  push_cast at hsum
  rw [cosErr]
  rw [abs_le] at *
  constructor <;> linarith

/-! ### The multiples of one angle -/

/-- Turned by the angle against the error that follows it, an error grows by that of one step only: the two roots of
`z² = 2·cos φ·z - 1` have modulus 1. -/
theorem norm_sub_turned_le {φ p q r e : ℝ} (h : r = 2 * Real.cos φ * q - p + e) :
    ‖(r : ℂ) - Complex.exp (φ * Complex.I) * q‖ ≤ ‖(q : ℂ) - Complex.exp (φ * Complex.I) * p‖ + |e| := by
  have htwo := Complex.two_cos (φ : ℂ)
  have hinv : Complex.exp (-φ * Complex.I) * Complex.exp (φ * Complex.I) = 1 := by rw [← Complex.exp_add]; simp
  have hsplit : (r : ℂ) - Complex.exp (φ * Complex.I) * q =
      Complex.exp (-φ * Complex.I) * (q - Complex.exp (φ * Complex.I) * p) + e := by
    rw [h]
    push_cast
    linear_combination (q : ℂ) * htwo + (p : ℂ) * hinv
  have hnorm : ‖Complex.exp (-φ * Complex.I)‖ = 1 := by
    rw [← Complex.ofReal_neg]; exact Complex.norm_exp_ofReal_mul_I _
  rw [hsplit]
  refine (norm_add_le _ _).trans ?_
  rw [norm_mul, hnorm, one_mul, Complex.norm_real, Real.norm_eq_abs]

/-- Untwisted, the next error is within that distance of the last one. -/
theorem abs_le_of_turned (φ p q : ℝ) : |q| ≤ |p| + ‖(q : ℂ) - Complex.exp (φ * Complex.I) * p‖ := by
  have h := norm_le_norm_add_norm_sub' (q : ℂ) (Complex.exp (φ * Complex.I) * p)
  rwa [norm_mul, Complex.norm_exp_ofReal_mul_I, one_mul, Complex.norm_real, Complex.norm_real, Real.norm_eq_abs,
    Real.norm_eq_abs] at h

/-- What the recurrence keeps at step `m`, with `E` the error of one step and `N` the number of steps. -/
structure RunNear (φ E : ℝ) (N m : Nat) (a b : Int) : Prop where
  value : |cosErr a (m * φ)| ≤ m * (N * E)
  turned : ‖(cosErr b ((m + 1) * φ) : ℂ) - Complex.exp (φ * Complex.I) * cosErr a (m * φ)‖ ≤ (m + 1) * E

section Run
variable {φ E : ℝ} {N : Nat} {c1 : Int} (hc : 4 * |cosErr c1 φ| + 2 * fixUnit ≤ E)
include hc

theorem stepError_nonneg : 0 ≤ E := le_trans (by have := fixUnit_pos; positivity) hc

/-- The recurrence of the model is that of the cosines, up to the rounding and the error of the first cosine. -/
theorem cosErr_step (a : Int) {b : Int} (hb : |fixVal b| ≤ 2) (θ : ℝ) : ∃ e, |e| ≤ E ∧
    cosErr (2 * fixMul c1 b - a) (θ + φ) = 2 * Real.cos φ * cosErr b θ - cosErr a (θ - φ) + e := by
  refine ⟨2 * (cosErr c1 φ * fixVal b) + 2 * (fixVal (fixMul c1 b) - fixVal c1 * fixVal b), ?_, ?_⟩
  · have hprod := fixVal_fixMul c1 b
    have hfirst := abs_mul_le_of_le (le_refl |cosErr c1 φ|) hb
    rw [abs_le] at hfirst hprod ⊢
    constructor <;> linarith
  · simp only [cosErr, fixVal_sub, fixVal_mul, Int.cast_ofNat, Real.cos_add, Real.cos_sub]
    ring

theorem RunNear.next_value {m : Nat} {a b : Int} (h : RunNear φ E N m a b) (hm : m + 1 ≤ N) :
    |cosErr b ((m + 1) * φ)| ≤ (m + 1) * (N * E) := by
  have hstep : ((m : ℝ) + 1) * E ≤ N * E := mul_le_mul_of_nonneg_right (by exact_mod_cast hm) (stepError_nonneg hc)
  calc |cosErr b ((m + 1) * φ)| ≤ |cosErr a (m * φ)| + _ := abs_le_of_turned φ _ _
    _ ≤ m * (N * E) + N * E := add_le_add h.value (h.turned.trans hstep)
    _ = (m + 1) * (N * E) := by ring

variable (hN : N * (N * E) ≤ 1)
include hN

theorem RunNear.step {m : Nat} {a b : Int} (h : RunNear φ E N m a b) (hm : m + 1 ≤ N) :
    RunNear φ E N (m + 1) b (2 * fixMul c1 b - a) := by
  have hvalue := h.next_value hc hm
  have hb : |fixVal b| ≤ 2 := by
    have hcos := Real.abs_cos_le_one ((m + 1) * φ)
    have hle : ((m : ℝ) + 1) * (N * E) ≤ N * (N * E) :=
      mul_le_mul_of_nonneg_right (by exact_mod_cast hm) (mul_nonneg N.cast_nonneg (stepError_nonneg hc))
    unfold cosErr at hvalue
    rw [abs_le] at *
    constructor <;> linarith
  obtain ⟨e, he, hnext⟩ := cosErr_step hc a hb ((m + 1) * φ)
  rw [show ((m : ℝ) + 1) * φ + φ = (m + 1 + 1) * φ by ring, show ((m : ℝ) + 1) * φ - φ = m * φ by ring] at hnext
  refine ⟨by exact_mod_cast hvalue, ?_⟩
  push_cast
  calc _ ≤ _ := norm_sub_turned_le hnext
    _ ≤ ((m : ℝ) + 1) * E + E := add_le_add h.turned he
    _ = _ := by ring

theorem RunNear.getElem {n m : Nat} {a b : Int} (h : RunNear φ E N m a b) (hm : m + n ≤ N) {i : Nat}
    (hi : i < (cosRun c1 n a b).length) : |cosErr (cosRun c1 n a b)[i] ((m + i : Nat) * φ)| ≤ N * (N * E) := by
  induction n generalizing m a b i with
  | zero => exact absurd hi (Nat.not_lt_zero i)
  | succ n ih =>
    cases i with
    | zero =>
      exact h.value.trans (mul_le_mul_of_nonneg_right (by exact_mod_cast (by omega : m ≤ N))
        (mul_nonneg N.cast_nonneg (stepError_nonneg hc)))
    | succ i =>
      have := ih (h.step hc hN (by omega)) (by omega) (i := i) (by simpa [cosRun] using hi)
      simpa [cosRun, show m + (i + 1) = m + 1 + i by omega] using this

end Run

/-- The run starts exact, so `N` steps leave `N²` times the error of one step. -/
theorem cosRun_near {φ E : ℝ} {N : Nat} {c1 : Int} (hc : 4 * |cosErr c1 φ| + 2 * fixUnit ≤ E) (hN : N * (N * E) ≤ 1)
    {i : Nat} (hi : i < (cosRun c1 N fixOne c1).length) :
    |cosErr (cosRun c1 N fixOne c1)[i] (i * φ)| ≤ N * (N * E) := by
  have hstart : RunNear φ E N 0 fixOne c1 := by
    refine ⟨by simp [cosErr], ?_⟩
    have := fixUnit_pos
    have := abs_nonneg (cosErr c1 φ)
    simp only [Nat.cast_zero, zero_mul, zero_add, one_mul]
    rw [show cosErr fixOne 0 = 0 by simp [cosErr], Complex.ofReal_zero, mul_zero, sub_zero, Complex.norm_real,
      Real.norm_eq_abs]
    linarith
  simpa using hstart.getElem hc hN (Nat.zero_add N).le hi

/-! ### The table's angles -/

/-- The angle `θ_1` of a table, in fixed point (R99). -/
def windowAngle (len : Nat) : Int := 2 * fixPi / (len - 1 : Int)

/-- The cosines of the first half of a table (R99). -/
def windowCosines (len : Nat) : List Int :=
  cosRun (fixCos (windowAngle len)) (len / 2) fixOne (fixCos (windowAngle len))

theorem windowHalf_eq (k : WKind) (len : Nat) : windowHalf k len = (windowCosines len).map (windowAt k) := rfl

/-- 20 decimals of π are known; the fixed-point one agrees with them. -/
theorem fixPi_near : |fixVal fixPi - Real.pi| ≤ 1 / 10 ^ 20 := by
  have hlow := Real.pi_gt_d20
  have hhigh := Real.pi_lt_d20
  have hfixlow : 3.14159265358979323846 < fixVal fixPi := by norm_num [fixVal, fixPi]
  have hfixhigh : fixVal fixPi < 3.14159265358979323847 := by norm_num [fixVal, fixPi]
  rw [abs_le]
  constructor <;> linarith

theorem windowAngle_near {len : Nat} (hlen : 2 ≤ len) :
    |fixVal (windowAngle len) - 2 * Real.pi / (len - 1)| ≤ fixUnit + 2 / (len - 1) / 10 ^ 20 := by
  have hpos : (0 : ℝ) < len - 1 := by linarith [show (2 : ℝ) ≤ len by exact_mod_cast hlen]
  have hquot := fixVal_ediv (2 * fixPi) (d := (len - 1 : Int)) (by omega)
  have hpi : |2 * fixVal fixPi / (len - 1) - 2 * Real.pi / (len - 1)| ≤ 2 / (len - 1) / 10 ^ 20 := by
    have hsplit : 2 * fixVal fixPi / (len - 1) - 2 * Real.pi / (len - 1) =
        2 / ((len : ℝ) - 1) * (fixVal fixPi - Real.pi) := by ring
    rw [hsplit, abs_mul, abs_of_pos (by positivity), div_eq_mul_one_div _ ((10 : ℝ) ^ 20)]
    exact mul_le_mul_of_nonneg_left fixPi_near (by positivity)
  push_cast [fixVal_mul] at hquot
  exact (abs_sub_le _ _ _).trans (add_le_add hquot hpi)

theorem ALen.toNat_bounds (len : ALen) : 512 ≤ len.toNat ∧ len.toNat ≤ 2048 := by cases len <;> decide

theorem windowAngle_small (len : ALen) : |fixVal (windowAngle len.toNat)| ≤ 1 := by
  obtain ⟨hlow, _⟩ := len.toNat_bounds
  have hnear := windowAngle_near (le_trans (by norm_num) hlow)
  have hden : (511 : ℝ) ≤ len.toNat - 1 := by linarith [show (512 : ℝ) ≤ len.toNat by exact_mod_cast hlow]
  have hpi : 2 * Real.pi / (len.toNat - 1) ≤ 8 / 511 :=
    div_le_div₀ (by norm_num) (by linarith [Real.pi_le_four]) (by norm_num) hden
  have hpos : 0 ≤ 2 * Real.pi / (len.toNat - 1) := div_nonneg (by linarith [Real.pi_pos]) (by linarith)
  have herr : 2 / ((len.toNat : ℝ) - 1) / 10 ^ 20 ≤ 1 / 4 := by
    rw [div_div, div_le_div_iff₀ (by positivity) (by norm_num)]
    nlinarith
  have hunit := fixUnit_le_half
  rw [abs_le] at *
  constructor <;> linarith

/-- The multiples of the fixed-point angle stay near those of the real one through the first half of a table. -/
theorem windowAngle_mul_near (len : ALen) {i : Nat} (hi : i < len.toNat / 2) :
    |i * fixVal (windowAngle len.toNat) - 2 * Real.pi * i / (len.toNat - 1)| ≤ 1024 * fixUnit + 1 / 10 ^ 20 := by
  obtain ⟨hlow, hhigh⟩ := len.toNat_bounds
  have hnear := windowAngle_near (le_trans (by norm_num) hlow)
  have hhalf : 2 * (i : ℝ) ≤ len.toNat - 1 := by
    have : ((2 * i + 1 : Nat) : ℝ) ≤ len.toNat := by exact_mod_cast (by omega)
    push_cast at this
    linarith
  have hi : (i : ℝ) ≤ 1024 := by exact_mod_cast (by omega : i ≤ 1024)
  have hpos : (0 : ℝ) < len.toNat - 1 := by linarith [show (512 : ℝ) ≤ len.toNat by exact_mod_cast hlow]
  have hratio : i * (2 / ((len.toNat : ℝ) - 1)) ≤ 1 := by
    rw [← mul_div_assoc, div_le_one hpos]; linarith
  calc |i * fixVal (windowAngle len.toNat) - 2 * Real.pi * i / (len.toNat - 1)|
      = i * |fixVal (windowAngle len.toNat) - 2 * Real.pi / (len.toNat - 1)| := by
        rw [← abs_of_nonneg (a := (i : ℝ)) i.cast_nonneg, ← abs_mul, abs_of_nonneg (a := (i : ℝ)) i.cast_nonneg]
        congr 1; ring
    _ ≤ i * (fixUnit + 2 / (len.toNat - 1) / 10 ^ 20) := mul_le_mul_of_nonneg_left hnear i.cast_nonneg
    _ = i * fixUnit + i * (2 / (len.toNat - 1)) / 10 ^ 20 := by ring
    _ ≤ 1024 * fixUnit + 1 / 10 ^ 20 := by
        gcongr
        exact fixUnit_pos.le

/-- Every cosine of a table is far nearer to the real one than the entries are to a rounding boundary. -/
theorem windowCosines_near (len : ALen) {i : Nat} (hi : i < (windowCosines len.toNat).length) :
    |cosErr (windowCosines len.toNat)[i] (2 * Real.pi * i / (len.toNat - 1))| ≤ 1 / 2 ^ 64 := by
  obtain ⟨_, hhigh⟩ := len.toNat_bounds
  have hfirst : 4 * |cosErr (fixCos (windowAngle len.toNat)) (fixVal (windowAngle len.toNat))| + 2 * fixUnit ≤
      1 / 2 ^ 147 := by
    have hcos := fixCos_near (windowAngle_small len)
    have hunit : 2 * fixUnit ≤ 1 / 2 ^ 150 := by unfold fixUnit; norm_num
    linarith
  have hN : ((len.toNat / 2 : Nat) : ℝ) * ((len.toNat / 2 : Nat) * (1 / 2 ^ 147)) ≤ 1 / 2 ^ 127 := by
    have hle : ((len.toNat / 2 : Nat) : ℝ) ≤ 1024 := by exact_mod_cast (by omega : len.toNat / 2 ≤ 1024)
    calc ((len.toNat / 2 : Nat) : ℝ) * ((len.toNat / 2 : Nat) * (1 / 2 ^ 147))
        ≤ 1024 * (1024 * (1 / 2 ^ 147)) := by gcongr
      _ ≤ 1 / 2 ^ 127 := by norm_num
  have hrun := (cosRun_near hfirst (hN.trans (by norm_num)) hi).trans hN
  have hangle := (Real.abs_cos_sub_cos_le _ _).trans
    (windowAngle_mul_near len (i := i) (by simpa [windowCosines, length_cosRun] using hi))
  have hunit : 1024 * fixUnit ≤ 1 / 2 ^ 127 := by unfold fixUnit; norm_num
  have hsum : (1 : ℝ) / 2 ^ 127 + 1 / 2 ^ 127 + 1 / 10 ^ 20 ≤ 1 / 2 ^ 64 := by norm_num
  change |cosErr (windowCosines len.toNat)[i] _| ≤ _ at hrun
  unfold cosErr at *
  rw [abs_le] at *
  constructor <;> linarith

end Sys2Proof.Machine
end

section
/-! SUPPORT. The window table is correctly rounded (R99): a check on whole numbers that no rounding boundary lies near an
entry, run over every cosine of the six tables, and the tables' mirror symmetry. -/

namespace Sys2Proof.Machine

/-! ### Rounding away from the boundaries -/

/-- Two steps of the ladder nearest to one number are one: of two adjacent ones at equal distance only one is even. -/
theorem IsNearestStep.unique {x : ℝ} {m n : Nat} (hm : IsNearestStep x m) (hn : IsNearestStep x n) : m = n := by
  wlog hlt : m < n generalizing m n
  · by_contra hne
    exact hne (this hn hm (by omega)).symm
  exfalso
  have hhigh := hm.above n hlt
  have hlow := hn.below m hlt
  have hsymm : halfway m n = halfway n m := by rw [halfway, halfway, add_comm]
  have hmid : x = halfway n m := le_antisymm hhigh (hsymm ▸ hlow)
  have hmEven := hm.even n hlt.ne' hmid
  have hnEven := hn.even m hlt.ne (hsymm ▸ hmid)
  have hnext := hm.above (m + 1) m.lt_succ_self
  have hstep : (unitsOfBits (m + 1) : ℝ) < unitsOfBits n := by
    exact_mod_cast unitsOfBits_strictMono (show m + 1 < n by omega)
  rw [hmid, halfway, halfway] at hnext
  linarith

/-- No boundary of the rounding lies within `s / den` of `m / den`: with `2^t` units the last place there and `q` the
nearest whole number of last places, every number so near rounds to `q` last places. -/
def roundsSafely (m s den : Nat) : Bool :=
  let x := m * 2 ^ 149
  let e := s * 2 ^ 149
  let t := Nat.log2 (x / den) - 23
  let d := den * 2 ^ t
  let q := (2 * x + d) / (2 * d)
  Nat.ble (2 ^ 23 * d + e) x && Nat.blt (x + e) (2 ^ 24 * d) && Nat.blt (2 * q * d + 2 * e) (2 * x + d) &&
    Nat.blt (2 * x + 2 * e) ((2 * q + 1) * d)

theorem exists_of_roundsSafely {m s den : Nat} (h : roundsSafely m s den = true) : ∃ t q : Nat,
    2 ^ 23 * (den * 2 ^ t) + s * 2 ^ 149 ≤ m * 2 ^ 149 ∧ m * 2 ^ 149 + s * 2 ^ 149 < 2 ^ 24 * (den * 2 ^ t) ∧
      2 * q * (den * 2 ^ t) + 2 * (s * 2 ^ 149) < 2 * (m * 2 ^ 149) + den * 2 ^ t ∧
      2 * (m * 2 ^ 149) + 2 * (s * 2 ^ 149) < (2 * q + 1) * (den * 2 ^ t) := by
  simp only [roundsSafely, Bool.and_eq_true, Nat.ble_eq, Nat.blt_eq, and_assoc] at h
  exact ⟨_, _, h⟩

/-- Every number within `s / den` of `m / den` has the same nearest step. -/
theorem exists_nearestStep_of_roundsSafely {m s den : Nat} (h : roundsSafely m s den = true) :
    ∃ n, ∀ r : ℝ, |m - den * r| ≤ s → IsNearestStep (r * 2 ^ 149) n := by
  obtain ⟨t, q, hlow, hhigh, hqlow, hqhigh⟩ := exists_of_roundsSafely h
  refine ⟨t * 2 ^ 23 + q, fun r hr => ?_⟩
  have hd : (0 : ℝ) < den * 2 ^ t := by
    have : 0 < den * 2 ^ t := Nat.pos_of_ne_zero fun h0 => by simp [h0] at hhigh
    exact_mod_cast this
  have hlowR : (2 : ℝ) ^ 23 * (den * 2 ^ t) + s * 2 ^ 149 ≤ m * 2 ^ 149 := by exact_mod_cast hlow
  have hhighR : (m : ℝ) * 2 ^ 149 + s * 2 ^ 149 < 2 ^ 24 * (den * 2 ^ t) := by exact_mod_cast hhigh
  have hqlowR : 2 * q * ((den : ℝ) * 2 ^ t) + 2 * (s * 2 ^ 149) < 2 * (m * 2 ^ 149) + den * 2 ^ t := by
    exact_mod_cast hqlow
  have hqhighR : 2 * ((m : ℝ) * 2 ^ 149) + 2 * (s * 2 ^ 149) < (2 * q + 1) * (den * 2 ^ t) := by exact_mod_cast hqhigh
  generalize hz : r * 2 ^ 149 / 2 ^ t = z
  have hscale : den * r * 2 ^ 149 = den * 2 ^ t * z := by rw [← hz]; field_simp
  have hnear : |(m : ℝ) * 2 ^ 149 - den * 2 ^ t * z| ≤ (s : ℝ) * 2 ^ 149 := by
    rw [← hscale, ← sub_mul, abs_mul, abs_of_pos (a := (2 : ℝ) ^ 149) (by positivity)]
    exact mul_le_mul_of_nonneg_right hr (by positivity)
  generalize (den : ℝ) * 2 ^ t = d at *
  rw [abs_le] at hnear
  have hbelow (y : ℝ) (hy : d * y < d * z) : y < z := lt_of_mul_lt_mul_left hy hd.le
  have habove (y : ℝ) (hy : d * z < d * y) : z < y := lt_of_mul_lt_mul_left hy hd.le
  have h1 : (q : ℝ) - 1 / 2 < z := hbelow _ (by linarith)
  have h2 : z < (q : ℝ) + 1 / 2 := habove _ (by linarith)
  have h3 : (2 : ℝ) ^ 23 ≤ z := le_of_mul_le_mul_left (by linarith) hd
  have h4 : z < (2 : ℝ) ^ 24 := habove _ (by linarith)
  refine isNearestStep_of_fields (t := t) ?_ (.inr (hz ▸ h3)) (hz ▸ h4)
  rw [hz]
  exact ⟨h1.le, h2.le, fun h => h.elim (fun h => absurd h h1.ne') (fun h => absurd h h2.ne)⟩

theorem isRNE32_of_roundsSafely {m s den : Nat} (h : roundsSafely m s den = true) (hd : 0 < den) {r : ℝ}
    (hr : |m - den * r| ≤ s) : IsRNE32 r (rne32 false m den) := by
  obtain ⟨n, hn⟩ := exists_nearestStep_of_roundsSafely h
  obtain ⟨k, hk, hkstep⟩ := exists_roundBits_eq m hd
  have hdR : (0 : ℝ) < den := by exact_mod_cast hd
  have h0 : 0 ≤ r := by
    obtain ⟨t, _, hlow, _⟩ := exists_of_roundsSafely h
    have hsm : (s : ℝ) ≤ m := by
      exact_mod_cast Nat.le_of_mul_le_mul_right ((Nat.le_add_left ..).trans hlow) (by positivity)
    exact nonneg_of_mul_nonneg_right (by linarith [(abs_le.mp hr).2]) hdR
  have hself : IsNearestStep ((m : ℝ) / den * 2 ^ 149) n :=
    hn _ (by rw [mul_div_cancel₀ _ (by positivity)]; simp)
  rw [div_mul_eq_mul_div] at hself
  have := isRNE32_of_isNearestStep (hn r hr) (by positivity)
  rw [mul_div_cancel_right₀ _ (by positivity)] at this
  rwa [rne32, hk, hkstep.unique hself]

/-! ### The entries -/

/-- The numerator of an entry, over `windowDenom`. -/
def windowNumer : WKind → Int → Int
  | .blackmanHarris, c => 35875 * fixOne - 48829 * c + 14128 * (2 * fixMul c c - fixOne) -
      1168 * (4 * fixMul (fixMul c c) c - 3 * c)
  | .hann, c => fixOne - c

/-- The denominator of the entries. -/
def windowDenom : WKind → Nat
  | .blackmanHarris => 100000 * 2 ^ 192
  | .hann => 2 * 2 ^ 192

/-- How far a numerator can be from the real one where the cosine is within 2^-64. -/
def windowSlack : WKind → Nat
  | .blackmanHarris => 2 ^ 18 * 2 ^ 128
  | .hann => 2 ^ 128

theorem windowAt_eq (k : WKind) (c : Int) : windowAt k c = rne32 false (windowNumer k c).toNat (windowDenom k) := by
  cases k <;> rfl

/-- The real window at a cosine (R99). -/
noncomputable def windowReal : WKind → ℝ → ℝ
  | .blackmanHarris, x => 0.35875 - 0.48829 * x + 0.14128 * (2 * x ^ 2 - 1) - 0.01168 * (4 * x ^ 3 - 3 * x)
  | .hann, x => 0.5 - 0.5 * x

theorem windowReal_cos (k : WKind) (θ : ℝ) : windowReal k (Real.cos θ) = match k with
    | .blackmanHarris =>
      0.35875 - 0.48829 * Real.cos θ + 0.14128 * Real.cos (2 * θ) - 0.01168 * Real.cos (3 * θ)
    | .hann => 0.5 - 0.5 * Real.cos θ := by
  cases k
  · simp only [windowReal, Real.cos_two_mul, Real.cos_three_mul]
  · rfl

/-- The numerator in fixed point: squares and cubes are off by a few errors of the cosine. -/
theorem fixVal_windowNumer_near (k : WKind) {c : Int} {x : ℝ} (hx : |x| ≤ 1) (h : |fixVal c - x| ≤ 1 / 2 ^ 64) :
    |fixVal (windowNumer k c) - windowDenom k / 2 ^ 192 * windowReal k x| ≤ (windowSlack k : ℝ) / 2 ^ 192 := by
  cases k with
  | hann =>
    simp only [windowNumer, windowDenom, windowSlack, windowReal, fixVal_sub, fixVal_fixOne]
    push_cast
    rw [abs_le] at *
    constructor <;> linarith
  | blackmanHarris =>
    have hunit : fixUnit ≤ 1 / 2 ^ 64 := by unfold fixUnit; norm_num
    have hsmall : (1 : ℝ) / 2 ^ 64 ≤ 1 / 2 := by norm_num
    have hden : (windowDenom .blackmanHarris : ℝ) / 2 ^ 192 = 100000 := by norm_num [windowDenom]
    have hslack : (windowSlack .blackmanHarris : ℝ) / 2 ^ 192 = 2 ^ 18 * (1 / 2 ^ 64) := by norm_num [windowSlack]
    have hc : |fixVal c| ≤ 2 := by
      rw [abs_le] at *
      constructor <;> linarith
    have hsquare := fixVal_fixMul c c
    have hcube := fixVal_fixMul (fixMul c c) c
    simp only [hden, hslack, windowNumer, windowReal, fixVal_sub, fixVal_add, fixVal_mul, fixVal_fixOne]
    push_cast
    generalize fixVal c = y at *
    generalize fixVal (fixMul c c) = p at *
    generalize fixVal (fixMul (fixMul c c) c) = q at *
    generalize (1 : ℝ) / 2 ^ 64 = η at *
    have hp : |p - x ^ 2| ≤ 4 * η := by
      have hprod := abs_mul_le_of_le h (b := y + x) (B := 3) ((abs_add_le _ _).trans (by linarith))
      rw [abs_le] at hprod hsquare ⊢
      constructor <;> linarith
    have hq : |q - x ^ 3| ≤ 10 * η := by
      have h1 := abs_mul_le_of_le hp hc
      have h2 := abs_mul_le_of_le (abs_mul_le_of_le hx hx) h
      rw [abs_le] at h1 h2 hcube ⊢
      constructor <;> linarith
    rw [abs_le] at h hp hq ⊢
    constructor <;> linarith

theorem windowNumer_near (k : WKind) {c : Int} {x : ℝ} (hx : |x| ≤ 1) (h : |fixVal c - x| ≤ 1 / 2 ^ 64) :
    |(windowNumer k c : ℝ) - windowDenom k * windowReal k x| ≤ windowSlack k := by
  have hfix := fixVal_windowNumer_near k hx h
  have hsplit : fixVal (windowNumer k c) - windowDenom k / 2 ^ 192 * windowReal k x =
      ((windowNumer k c : ℝ) - windowDenom k * windowReal k x) / 2 ^ 192 := by rw [fixVal]; ring
  rwa [hsplit, abs_div, abs_of_pos (a := (2 : ℝ) ^ 192) (by positivity),
    div_le_div_iff_of_pos_right (by positivity)] at hfix

theorem windowDenom_pos (k : WKind) : 0 < windowDenom k := by cases k <;> decide

/-- An entry that passes the check is the real window rounded once. -/
theorem isRNE32_windowAt (k : WKind) {c : Int} {x : ℝ}
    (hsafe : roundsSafely (windowNumer k c).toNat (windowSlack k) (windowDenom k) = true) (hx : |x| ≤ 1)
    (h : |fixVal c - x| ≤ 1 / 2 ^ 64) : IsRNE32 (windowReal k x) (windowAt k c) := by
  have hpos : 0 < (windowNumer k c).toNat := by
    obtain ⟨t, _, hlow, _⟩ := exists_of_roundsSafely hsafe
    have hd := windowDenom_pos k
    by_contra h0
    have hzero : 2 ^ 23 * (windowDenom k * 2 ^ t) = 0 := by
      rw [Nat.eq_zero_of_not_pos h0] at hlow; omega
    exact absurd hzero (by positivity)
  have hcast : ((windowNumer k c).toNat : ℝ) = windowNumer k c := by
    exact_mod_cast Int.toNat_of_nonneg (a := windowNumer k c) (by omega)
  rw [windowAt_eq]
  refine isRNE32_of_roundsSafely hsafe (windowDenom_pos k) ?_
  rw [hcast]
  exact windowNumer_near k hx h

/-- The first entry is computed exactly, since its cosine is exactly 1. -/
theorem isRNE32_windowAt_fixOne (k : WKind) : IsRNE32 (windowReal k 1) (windowAt k fixOne) := by
  have h := isRNE32_rne32 false (windowNumer k fixOne).toNat (windowDenom_pos k)
  rw [← windowAt_eq] at h
  convert h using 1
  cases k
  · rw [show (windowNumer .blackmanHarris fixOne).toNat = 6 * 2 ^ 192 by decide, windowReal, windowDenom, signOf]
    norm_num
  · rw [show (windowNumer .hann fixOne).toNat = 0 by decide, windowReal]
    norm_num

/-- Every entry but the first is checked to lie away from the boundaries. -/
def windowSafe (k : WKind) (len : Nat) : Bool :=
  (windowCosines len).tail.all fun c => roundsSafely (windowNumer k c).toNat (windowSlack k) (windowDenom k)

theorem windowSafe_all (k : WKind) (len : ALen) : windowSafe k len.toNat = true := by
  cases k <;> cases len <;> decide +kernel

/-! ### The tables -/

theorem length_windowCosines (len : Nat) : (windowCosines len).length = len / 2 := length_cosRun ..

theorem getElem_zero_windowCosines (len : ALen) (h : 0 < (windowCosines len.toNat).length) :
    (windowCosines len.toNat)[0] = fixOne := by
  cases len <;> rfl

/-- Every cosine of a table gives the real window at its angle, rounded once. -/
theorem isRNE32_windowCosines (k : WKind) (len : ALen) {i : Nat} (hi : i < (windowCosines len.toNat).length) :
    IsRNE32 (windowReal k (Real.cos (2 * Real.pi * i / (len.toNat - 1)))) (windowAt k (windowCosines len.toNat)[i]) := by
  cases i with
  | zero =>
    rw [getElem_zero_windowCosines]
    simpa using isRNE32_windowAt_fixOne k
  | succ i =>
    refine isRNE32_windowAt k ?_ (Real.abs_cos_le_one _) (windowCosines_near len hi)
    have hlen : i < (windowCosines len.toNat).tail.length := by rw [List.length_tail]; omega
    have := List.all_eq_true.mp (windowSafe_all k len) _ (List.getElem_mem hlen)
    rwa [List.getElem_tail] at this

theorem ALen.toNat_even (len : ALen) : len.toNat = len.toNat / 2 + len.toNat / 2 := by cases len <;> rfl

theorem length_windowTable (k : WKind) (len : ALen) : (windowTable k len.toNat).length = len.toNat := by
  simp only [windowTable, windowHalf_eq, List.length_append, List.length_reverse, List.length_map, length_windowCosines]
  exact len.toNat_even.symm

/-- A table reads the same from both ends (R99). -/
theorem windowTable_mirror (k : WKind) (len : ALen) {n : Nat} (hn : n < len.toNat) :
    (windowTable k len.toNat).getD n 0 = (windowTable k len.toNat).getD (len.toNat - 1 - n) 0 := by
  have hrev : (windowTable k len.toNat).reverse = windowTable k len.toNat := by
    rw [windowTable, List.reverse_append, List.reverse_reverse]
  have hlen := length_windowTable k len
  rw [List.getD_eq_getElem _ _ (by omega), List.getD_eq_getElem _ _ (by omega), List.getElem_of_eq hrev.symm,
    List.getElem_reverse]
  simp only [hlen]

theorem windowTable_first_half (k : WKind) (len : ALen) {n : Nat} (hn : n < (windowCosines len.toNat).length) :
    (windowTable k len.toNat).getD n 0 = windowAt k (windowCosines len.toNat)[n] := by
  rw [windowTable, windowHalf_eq, List.getD_append _ _ _ _ (by rwa [List.length_map]),
    List.getD_eq_getElem _ _ (by rwa [List.length_map]), List.getElem_map]

/-- The angles of two mirrored entries have one cosine. -/
theorem cos_mirror {n len : Nat} (hn : n < len) (hlen : 2 ≤ len) :
    Real.cos (2 * Real.pi * (len - 1 - n : Nat) / (len - 1)) = Real.cos (2 * Real.pi * n / (len - 1)) := by
  have hpos : (len : ℝ) - 1 ≠ 0 := by linarith [show (2 : ℝ) ≤ len by exact_mod_cast hlen]
  rw [Nat.cast_sub (by omega), Nat.cast_sub (by omega), Nat.cast_one, ← Real.cos_two_pi_sub]
  congr 1
  field_simp
  ring

theorem isRNE32_windowTable (k : WKind) (len : ALen) {n : Nat} (hn : n < len.toNat) :
    IsRNE32 (windowReal k (Real.cos (2 * Real.pi * n / (len.toNat - 1)))) ((windowTable k len.toNat).getD n 0) := by
  have heven := len.toNat_even
  have hhalf := length_windowCosines len.toNat
  by_cases hlow : n < len.toNat / 2
  · rw [windowTable_first_half k len (by rwa [hhalf])]
    exact isRNE32_windowCosines ..
  · have hlow' : len.toNat - 1 - n < (windowCosines len.toNat).length := by omega
    rw [windowTable_mirror k len hn, windowTable_first_half k len hlow', ← cos_mirror hn (by omega)]
    exact isRNE32_windowCosines ..

/-- Settles O46: the cosines are near enough, and no entry's rounding boundary is as near. -/
theorem windowTableIsCorrectlyRounded : Obligations.WindowTableIsCorrectlyRounded := by
  intro k len n hn table theta
  refine ⟨length_windowTable k len, ?_, windowTable_mirror k len hn, ?_⟩
  · have h := isRNE32_windowTable k len hn
    rw [windowReal_cos] at h
    cases k <;> exact h
  · rintro rfl rfl
    have hlen : 0 < (windowCosines len.toNat).length := by
      have := len.toNat_bounds
      rw [length_windowCosines]; omega
    exact (windowTable_first_half .hann len hlen).trans (by rw [getElem_zero_windowCosines]; decide)

end Sys2Proof.Machine
end

section
/-! SUPPORT. The transient detector's stage event (R108), and when a difference that is rounded once still exceeds a
threshold (R110). -/

namespace Sys2Proof.Machine

/-! ### TRANSIENT's event (R108) -/

/-- A run of elements, as a list. -/
theorem elems_eq_map_range_add (s : State) (g : Region) (i n : Nat) :
    s.elems g i n = (List.range n).map fun j => s.elem g (i + j) :=
  List.ext_getElem (by simp) fun j _ _ => by simp [getElem_elems]

theorem rmsOf_currentFrame (s : State) : rmsOf s.currentFrame =
    fsqrt (fdiv ((List.range 128).foldl
      (fun acc i => fadd acc (fmul (s.elem .win (1920 + i)) (s.elem .win (1920 + i)))) 0) 0x43000000) := by
  rw [rmsOf, sumSquares, State.currentFrame, elems_eq_map_range_add, List.foldl_map]
  rfl

/-- What TRANSIENT's event answers in the sequencer's turn, register by register. -/
theorem execTransient_results {s : State} (he : s.executing .transient = true) :
    exec .transient s = .next (finish (transientEvent s)) ∧
      (finish (transientEvent s)).tRms = rmsOf s.currentFrame ∧
      (finish (transientEvent s)).tFlux = fsub (rmsOf s.currentFrame) s.prevRms ∧
      (finish (transientEvent s)).prevRms = rmsOf s.currentFrame ∧
      (finish (transientEvent s)).tFlags.tdet = fgt (fsub (rmsOf s.currentFrame) s.prevRms) s.cfg.tthr := by
  obtain ⟨hprevRms, htRms, htFlux, htdet⟩ := (sameDatapath_finish (transientEvent s)).transient
  rw [hprevRms, htRms, htFlux, htdet]
  exact ⟨next_singleStage he .transient transientEvent, by simp, by simp, by simp, by simp⟩

/-- Settles O30: the frame's elements are WIN[1920..2047] in order, and `finish()` keeps what the event wrote. -/
theorem transientFollowsItsRule : Obligations.TransientFollowsItsRule := by
  intro s he acc rms flux
  have hrms : rmsOf s.currentFrame = rms := rmsOf_currentFrame s
  obtain ⟨hnext, hresults⟩ := execTransient_results he
  rw [hrms] at hresults
  obtain ⟨htRms, htFlux, hprevRms, htdet⟩ := hresults
  refine ⟨_, hnext, htRms, htFlux, hprevRms, htdet, fun a => ?bytes, finished_finish (by simp) (by simp), ?_⟩
  case bytes => rw [finish_mem, transientEvent_mem]
  rw [finish_frame, transientEvent]
  refine ⟨?_, ?_, ?_, ?_, ?_⟩
  · constructor <;> constructor <;> rfl
  all_goals constructor <;> rfl

/-! ### Thresholds and one rounding (R110) -/

/-- A step of the ladder up to `m` units is at most one unit in the last place of `m` long. -/
theorem unitsOfBits_succ_le {k m : Nat} (h : unitsOfBits k ≤ m) :
    unitsOfBits (k + 1) ≤ unitsOfBits k + 2 ^ (Nat.log2 m - 23) := by
  obtain ⟨t, q, rfl, ht, hq⟩ := exists_fields k
  rw [unitsOfBits_fields ht hq.le] at h ⊢
  rw [Nat.add_assoc, unitsOfBits_fields (by omega) hq, Nat.add_one_mul]
  have hplace : t ≤ Nat.log2 m - 23 := by
    obtain rfl | hq23 := ht
    · exact Nat.zero_le _
    · have hm : 2 ^ (23 + t) ≤ m := by
        rw [Nat.pow_add]; exact (Nat.mul_le_mul_right _ hq23).trans h
      have hlog : 23 + t ≤ Nat.log2 m := (Nat.le_log2 (by have := Nat.two_pow_pos (23 + t); omega)).mpr hm
      omega
  exact Nat.add_le_add_left (Nat.pow_le_pow_right two_pos hplace) _

/-- A number past the point halfway from step `k` to the next one is not rounded down to `k`. -/
theorem IsNearestStep.lt_of_halfway_lt {x : ℝ} {n k : Nat} (h : IsNearestStep x n)
    (hx : halfway (k + 1) k < x) : k < n := by
  by_contra hn
  have habove := h.above (k + 1) (by omega)
  have hmono : (unitsOfBits n : ℝ) ≤ unitsOfBits k := by
    exact_mod_cast unitsOfBits_strictMono.monotone (not_lt.mp hn)
  unfold halfway at *
  linarith

theorem forder_le_fbits (a : Word) : forder a ≤ fbits a := by unfold forder; split <;> omega

theorem fval_le_fmag (a : Word) : fval a ≤ fmag a := by unfold fval; split <;> omega

/-- A fraction past the point halfway above a finite pattern is rounded to a greater one, an infinity included. -/
theorem fgt_rne32_of_halfway_lt {num den : Nat} (hd : 0 < den) {b : Word} (hb : isFinite b = true)
    (h : halfway (fbits b + 1) (fbits b) < (num : ℝ) * 2 ^ 149 / den) : fgt (rne32 false num den) b = true := by
  obtain ⟨n, hn, hnear⟩ := exists_roundBits_eq num hd
  have hlt : fbits b < fbits (rne32 false num den) := by
    rw [rne32, fbits_fpack ((roundBits_le num den).trans_lt infBits_lt), hn, lt_min_iff]
    exact ⟨hnear.lt_of_halfway_lt h, by simpa [isFinite] using hb⟩
  have horder : forder (rne32 false num den) = fbits (rne32 false num den) := by simp [forder, fsign_rne32]
  refine (fgt_iff ..).mpr ⟨isNaN_rne32 .., isNaN_of_isFinite hb, ?_⟩
  have := forder_le_fbits b
  omega

/-- A difference of finite patterns, computed exactly in units of 2^-149 and rounded once. -/
theorem fsub_of_isFinite {a b : Word} (ha : isFinite a = true) (hb : isFinite b = true) :
    fsub a b = if fval a - fval b = 0 then fpack (fsign a && !fsign b) 0
      else rne32 (fval a - fval b < 0) (fval a - fval b).natAbs (2 ^ 149) := by
  simp [fsub, fadd, isNaN_of_isFinite, isInf_of_isFinite, ha, hb, ← sub_eq_add_neg, -Nat.reducePow]

/-- A finite pattern less itself is +0.0. -/
theorem fsub_self {a : Word} (ha : isFinite a = true) : fsub a a = 0 := by
  rw [fsub_of_isFinite ha ha, sub_self, if_pos rfl, Bool.and_not_self]
  rfl

/-- The value of a finite pattern that is not below zero. -/
theorem fval_nonneg_of_not_flt {a : Word} (ha : isFinite a = true) (h : flt a 0 = false) : 0 ≤ fval a := by
  by_contra hneg
  have hlt : flt a 0 = true :=
    (fgt_iff ..).mpr ⟨by decide, isNaN_of_isFinite ha, (forder_lt_iff ..).mpr (not_le.mp hneg)⟩
  exact absurd h (by rw [hlt]; decide)

theorem fval_of_nonneg {a : Word} (h : 0 ≤ fval a) : fval a = fmag a := by
  unfold fval at *
  split <;> simp_all

/-- The point halfway above the threshold is at most half a unit in the last place of `a` away, so a rise by more passes
it (R110). -/
theorem fgt_fsub_of_clear_rise {a b c : Word} (ha : isFinite a = true) (hb : isFinite b = true) (hc : isFinite c = true)
    (hb0 : 0 ≤ fval b) (hc0 : 0 ≤ fval c)
    (hrise : (2 : Int) ^ (Nat.log2 (fmag a) - 23) < 2 * (fval a - fval b - fval c)) : fgt (fsub a b) c = true := by
  have hulp : (0 : Int) < 2 ^ (Nat.log2 (fmag a) - 23) := by positivity
  have hcmag := fval_of_nonneg hc0
  have hbelow : fmag c ≤ fmag a := by
    have := fval_le_fmag a
    omega
  have hstep : (unitsOfBits (fbits c + 1) : ℝ) ≤ fmag c + 2 ^ (Nat.log2 (fmag a) - 23) := by
    exact_mod_cast unitsOfBits_succ_le hbelow
  have hdiff : (((fval a - fval b).natAbs : Int) : ℝ) = fval a - fval b := by
    rw [Int.natAbs_of_nonneg (by omega), Int.cast_sub]
  rw [fsub_of_isFinite ha hb, if_neg (by omega), decide_eq_false (by omega)]
  refine fgt_rne32_of_halfway_lt (by positivity) hc ?_
  have hriseR : (2 : ℝ) ^ (Nat.log2 (fmag a) - 23) < 2 * (fval a - fval b - fmag c) := by
    rw [hcmag] at hrise
    exact_mod_cast hrise
  rw [Nat.cast_pow, Nat.cast_ofNat, mul_div_cancel_right₀ _ (by positivity), ← Int.cast_natCast, hdiff, halfway]
  change ((unitsOfBits (fbits c + 1) : ℝ) + fmag c) / 2 < _
  linarith

/-- Settles O31: equal patterns differ by +0.0, which no threshold from zero on is below, and a clear rise survives the
rounding of the flux. -/
theorem transientProperty : Obligations.TransientProperty := by
  intro s he hprev hthr
  obtain ⟨hnext, -, htFlux, -, htdet⟩ := execTransient_results he
  refine ⟨fun hsustain => ⟨_, hnext, ?flux, ?tdet⟩, fun hrms htthr hprev0 hrise => ⟨_, hnext, ?rise⟩⟩
  case flux => rw [htFlux, hsustain, fsub_self hprev]
  case tdet => rw [htdet, hsustain, fsub_self hprev]; exact hthr
  case rise =>
    rw [htdet]
    exact fgt_fsub_of_clear_rise hrms hprev htthr hprev0 (fval_nonneg_of_not_flt htthr hthr) hrise

end Sys2Proof.Machine
end

section
/-! SUPPORT. The chord solver's tolerance window and MIDI mapping in real arithmetic (R112, R114). -/

namespace Sys2Proof.Machine

/-- Settles O32: the ascending strict scan answers the peak. -/
theorem peakExtraction : Obligations.PeakExtraction := fun _ => isPeak_argmax

/-! ### The tolerance window (R112) -/

theorem Latched.nfftN_pos (l : Latched) : 0 < l.nfftN := by rw [Latched.nfftN]; cases l.nfft <;> decide

/-- The value of a finite non-negative pattern is its magnitude. -/
theorem fval_of_finiteNonneg {v : Word} (h : finiteNonneg v = true) : fval v = fmag v := by
  obtain ⟨hfin, hlt⟩ : isFinite v = true ∧ flt v 0 = false := by simpa [finiteNonneg] using h
  exact fval_of_nonneg (fval_nonneg_of_not_flt hfin hlt)

/-- The Hz test over the reals. -/
theorem inTolerance_hz_iff {l : Latched} (hu : l.hunit = .hz) (t k : Nat) :
    inTolerance l t k = true ↔ |(k : ℝ) - t| * (48000 / l.nfftN) ≤ (fmag l.htol : ℝ) / 2 ^ 149 := by
  have hN : (0 : ℝ) < l.nfftN := by exact_mod_cast l.nfftN_pos
  have habs : |(k : ℝ) - t| = (((k : Int) - t).natAbs : ℝ) := by rw [Nat.cast_natAbs]; push_cast; rfl
  simp only [inTolerance, hu, decide_eq_true_eq]
  rw [habs, ← mul_div_assoc, div_le_div_iff₀ hN (by positivity), show Config.fs = 48000 from rfl]
  norm_cast

/-- The exact test on whole-number powers compares with the root of the power of two. -/
theorem centsExact_iff (k t m e : Nat) :
    centsExact k t m e = true ↔ (k : ℝ) ≤ t * (2 : ℝ) ^ ((m : ℝ) / 2 ^ e / 1200) := by
  have hroot : ((2 : ℝ) ^ ((m : ℝ) / 2 ^ e / 1200)) ^ (1200 * 2 ^ e) = 2 ^ m := by
    have hexp : (m : ℝ) / 2 ^ e / 1200 * (1200 * 2 ^ e : Nat) = m := by
      rw [Nat.cast_mul, Nat.cast_pow, Nat.cast_ofNat, Nat.cast_ofNat]
      field_simp
    rw [← Real.rpow_natCast, ← Real.rpow_mul two_pos.le, hexp, Real.rpow_natCast]
  rw [centsExact, decide_eq_true_eq, ← pow_le_pow_iff_left₀ (a := (k : ℝ)) (by positivity) (by positivity)
    (show 1200 * 2 ^ e ≠ 0 by positivity), mul_pow, hroot, mul_comm (2 ^ m)]
  norm_cast

/-- The cents test over the reals, as ratios of bins. -/
theorem inTolerance_cents_iff {l : Latched} (hu : l.hunit = .cents) {t k : Nat} (ht : 0 < t) (hk : 0 < k) :
    inTolerance l t k = true ↔ (t : ℝ) * 2 ^ (-((fmag l.htol : ℝ) / 2 ^ 149) / 1200) ≤ k ∧
      (k : ℝ) ≤ t * 2 ^ ((fmag l.htol : ℝ) / 2 ^ 149 / 1200) := by
  simp only [inTolerance, hu, Bool.and_eq_true]
  rw [centsLe_eq_exact ht, centsLe_eq_exact hk, centsExact_iff, centsExact_iff, and_comm, neg_div,
    Real.rpow_neg two_pos.le, ← div_eq_mul_inv, div_le_iff₀ (by positivity)]

/-- Settles O33: the window holds the bins of the exact test, and the exact test is the real one in either unit. -/
theorem toleranceWindow : Obligations.ToleranceWindow := by
  intro l kc h k htol hkc hh hle tol delta
  have ht : 1 ≤ h * kc := Nat.mul_pos hh hkc
  have hdelta : 0 < delta := div_pos (by norm_num) (by exact_mod_cast l.nfftN_pos)
  have htolval : tol = (fmag l.htol : ℝ) / 2 ^ 149 := by
    simp only [tol, fval_of_finiteNonneg htol, Int.cast_natCast]
  refine ⟨(mem_near ht hle).trans (and_congr_right fun hk => and_congr_right fun _ => ?_),
    (mem_near ht hle).mpr ⟨ht, hle, inTolerance_self l _⟩⟩
  cases hu : l.hunit with
  | hz => simp [inTolerance_hz_iff hu, htolval, delta]
  | cents =>
    have hscale (c : ℝ) : h * kc * delta * c = ((h * kc : Nat) : ℝ) * c * delta := by push_cast; ring
    simp [inTolerance_cents_iff hu ht hk, htolval, hscale, mul_le_mul_iff_of_pos_right hdelta]

/-! ### The MIDI note (R114) -/

/-- No bin lies halfway between two notes: the powers of two in the two sides differ by an odd number. -/
theorem pow_mul_four_pow_ne {a b : Nat} (ha : a ≠ 0) (hb : b ≠ 0) (n : Nat) : a ^ 24 * 4 ^ n ≠ b ^ 24 * 2 ^ 139 := by
  intro h
  have h4 : (4 : Nat) ^ n = 2 ^ (2 * n) := (pow_mul 2 2 n).symm
  have hval := congrArg (padicValNat 2) h
  rw [h4, padicValNat.mul (by positivity) (by positivity), padicValNat.mul (by positivity) (by positivity),
    padicValNat.prime_pow, padicValNat.prime_pow, padicValNat.pow, padicValNat.pow] at hval
  omega

/-- Half step `n` is passed by the whole-number test exactly where the real note plus one half has reached `n`. -/
theorem halfStep_iff {N kc : Nat} (hN : 0 < N) (hkc : 0 < kc) (n : Nat) :
    (440 * N) ^ 24 * 4 ^ n < (kc * 48000) ^ 24 * 2 ^ 139 ↔
      (n : ℝ) ≤ 69 + 12 * Real.logb 2 (kc * (48000 / N) / 440) + 1 / 2 := by
  have hNR : (0 : ℝ) < N := by exact_mod_cast hN
  have hkR : (0 : ℝ) < kc := by exact_mod_cast hkc
  have hx : (0 : ℝ) < kc * (48000 / N) / 440 := by positivity
  have hratio : (kc * 48000 : ℝ) = kc * (48000 / N) / 440 * (440 * N) := by field_simp
  have hreal : (440 * N) ^ 24 * 4 ^ n ≤ (kc * 48000) ^ 24 * 2 ^ 139 ↔
      (2 : ℝ) ^ (2 * n) ≤ (kc * (48000 / N) / 440) ^ 24 * 2 ^ 139 := by
    rw [← Nat.cast_le (α := ℝ)]
    push_cast
    rw [hratio, mul_pow _ (440 * (N : ℝ)), mul_comm _ ((4 : ℝ) ^ n), mul_right_comm,
      mul_le_mul_iff_of_pos_right (by positivity), pow_mul]
    norm_num
  rw [lt_iff_le_and_ne, and_iff_left (pow_mul_four_pow_ne (by positivity) (by positivity) n), hreal,
    ← Real.logb_le_logb one_lt_two (by positivity) (by positivity), Real.logb_mul (by positivity) (by positivity),
    Real.logb_pow, Real.logb_pow, Real.logb_pow, Real.logb_self_eq_one one_lt_two]
  push_cast
  constructor <;> intro h <;> linarith

/-- Counting the steps `1 … n` up to `z` clamps `z` to `0 … n`. -/
theorem countP_range_le (n : Nat) (z : ℤ) :
    ((List.range n).countP (fun j : Nat => decide ((j + 1 : ℤ) ≤ z)) : ℤ) = min (n : ℤ) (max 0 z) := by
  induction n with
  | zero => simp
  | succ n ih =>
    rw [List.range_succ, List.countP_append, Nat.cast_add, ih]
    simp only [List.countP_singleton, decide_eq_true_eq]
    split <;> push_cast <;> omega

/-- Settles O34: the note counts the half steps that `m + 1/2` has reached, and `round m` is the floor of `m + 1/2`. -/
theorem midiNote : Obligations.MidiNote := by
  intro l kc hkc _
  generalize hm : 69 + 12 * Real.logb 2 ((kc : ℝ) * (48000 / l.nfftN) / 440) = m
  have hstep (j : Nat) : (440 * l.nfftN) ^ 24 * 4 ^ (j + 1) < (kc * Config.fs) ^ 24 * 2 ^ 139 ↔ (j + 1 : ℤ) ≤ round m := by
    rw [round_eq, Int.le_floor, ← hm]
    exact_mod_cast halfStep_iff l.nfftN_pos hkc (j + 1)
  rw [midi]
  simp only [hstep]
  exact countP_range_le 127 (round m)

end Sys2Proof.Machine
end

section
/-! SUPPORT. SOLVE's event (R115): the loop's list functions against their rules, and the loop as a run of `SolverRun`. -/

namespace Sys2Proof.Machine

theorem Latched.two_le_bins (l : Latched) : 2 ≤ l.bins := by rw [Latched.bins, Latched.nfftN]; cases l.nfft <;> decide

/-! ### Windows and harmonics -/

theorem mem_near_iff_between (l : Latched) (t k : Nat) : k ∈ near l t ↔ nearLow l t ≤ k ∧ k ≤ nearHigh l t := by
  rw [near, List.mem_range'_1]; omega

theorem nearUpdated_mapNear (l : Latched) (t : Nat) (f : Word → Word) (xs : List Word) :
    NearUpdated l t f xs (mapNear l t f xs) where
  length := length_mapBins ..
  bins b hb := by
    have hb' : b < (mapNear l t f xs).length := by rwa [mapNear, length_mapBins]
    rw [List.getD_eq_getElem _ _ hb, List.getD_eq_getElem _ _ hb']
    simp only [mem_near_iff_between, mapNear, getElem_mapBins _ _ _ _ hb]

/-- The harmonics that are left are those from `h` on whose bin is at most Nyquist. -/
theorem harmonicsSubtracted_foldl (l : Latched) {k : Nat} (hk : 0 < k) (a : Word) {n h : Nat}
    (hn : n = (l.bins - 1) / k + 1 - h) (xs : List Word) :
    HarmonicsSubtracted l k a h xs ((List.range' h n).foldl
      (fun xs h => mapNear l (h * k) (fun v => fmax0 (fsub v (fmul l.hsub a))) xs) xs) := by
  induction n generalizing h xs with
  | zero => exact .beyond ((Nat.div_lt_iff_lt_mul hk).mp (by omega))
  | succ n ih =>
    rw [List.range'_succ, List.foldl_cons]
    exact .harmonic ((Nat.le_div_iff_mul_le hk).mp (by omega)) (nearUpdated_mapNear ..) (ih (by omega) _)

theorem harmonicsSubtracted_subtractHarmonics (l : Latched) {k : Nat} (hk : 0 < k) (a : Word) (xs : List Word) :
    HarmonicsSubtracted l k a 2 xs (subtractHarmonics l k a xs) :=
  harmonicsSubtracted_foldl l hk a (by omega) xs

/-- The skip test is R113's for candidates at bins above DC. -/
theorem skipped_iff {l : Latched} {cs : List Cand} (hcs : ∀ c ∈ cs, 0 < c.bin.toNat) {k : Nat} (hk1 : 1 ≤ k)
    (hk : k < l.bins) : skipped l cs k = true ↔ Skips l cs k := by
  simp only [skipped, Skips, List.any_eq_true, List.mem_range'_1]
  refine exists_congr fun c => and_congr_right fun hc => exists_congr fun h => ?_
  have hrange : (2 ≤ h ∧ h < 2 + ((l.bins - 1) / c.bin.toNat - 1)) ↔ 2 ≤ h ∧ h * c.bin.toNat ≤ l.bins - 1 := by
    rw [← Nat.le_div_iff_mul_le (hcs c hc)]; omega
  rw [hrange, and_assoc]
  refine and_congr_right fun hh => and_congr_right fun hle => ?_
  rw [mem_near (Nat.mul_pos (by omega) (hcs c hc)) hle]
  exact ⟨fun h => ⟨hk1, by omega, h⟩, fun h => h.2.2⟩

/-! ### The loop -/

theorem toNat_bin_candidate {l : Latched} {k : Nat} (hk : k < l.bins) (a : Word) : (candidate l k a).bin.toNat = k := by
  have := l.bins_le
  rw [candidate, BitVec.toNat_ofNat]; omega

/-- The loop with `n` iterations left is a run of the rule's loop with `n` iterations short of the cap. -/
theorem solverRun_solveLoop (l : Latched) {n iter : Nat} (hiter : iter + n = l.maxn.val) {scr : List Word}
    (hscr : scr.length = l.bins) {cs : List Cand} (hcs : ∀ c ∈ cs, 0 < c.bin.toNat) :
    SolverRun l iter scr cs (solveLoop l n scr cs) := by
  induction n generalizing iter scr cs with
  | zero => exact .cap (by omega)
  | succ n ih =>
    have hpeak := isPeak_argmax (xs := scr) (hscr ▸ l.two_le_bins)
    rw [hscr] at hpeak
    have hskip := skipped_iff hcs hpeak.range.1 hpeak.range.2
    have hbin := toNat_bin_candidate hpeak.range.2 (scr.getD (argmax scr) 0)
    have hstrip : NearUpdated l (argmax scr) (fun _ => 0) scr (strip l (argmax scr) scr) := nearUpdated_mapNear ..
    rw [solveLoop]
    split
    case isTrue hfloor => exact .noiseFloor (by omega) hpeak (by simpa using hfloor)
    case isFalse hfloor =>
      have hfloor : fgt (scr.getD (argmax scr) 0) l.nfloor = true := by simpa using hfloor
      split
      case isTrue hs =>
        exact .skip (by omega) hpeak hfloor (hskip.mp hs) hstrip (ih (by omega) (by simpa using hscr) hcs)
      case isFalse hs =>
        refine .emit (by omega) hpeak hfloor (mt hskip.mpr hs) hstrip
          (harmonicsSubtracted_subtractHarmonics l hpeak.range.1 _ _)
          (ih (by omega) (by simpa using hscr) fun c hc => ?_)
        obtain hc | hc := List.mem_append.mp hc
        · exact hcs c hc
        · rw [List.mem_singleton.mp hc]; exact hpeak.range.1.trans_eq hbin.symm

/-- A run emits at most one candidate for each pass left (R116). -/
theorem SolverRun.length_cands_le {l : Latched} {iter : Nat} {scr : List Word} {cs : List Cand} {r : Solved}
    (h : SolverRun l iter scr cs r) : r.cands.length ≤ cs.length + (l.maxn.val - iter) := by
  induction h with
  | cap | noiseFloor => exact Nat.le_add_right ..
  | skip => omega
  | emit =>
    rw [List.length_append, List.length_singleton] at *
    omega

/-! ### SOLVE's event -/

/-- What SOLVE finds in a state. -/
def State.solved (s : State) : Solved := solve s.lat (flt s.tRms s.lat.silence) (s.elems .wht 0 s.lat.bins)

theorem solveEvent_eq (s : State) : solveEvent s =
    { s.setElems .scr 0 s.solved.scr with
      wc := s.solved.cands ++ s.wc.drop s.solved.cands.length
      wNc := BitVec.ofNat 32 s.solved.cands.length
      tFlags := { s.tFlags with gated := flt s.tRms s.lat.silence, capped := s.solved.capped } } := rfl

@[simp] theorem length_solved_scr (s : State) : s.solved.scr.length = s.lat.bins :=
  (solve_bounds ..).1.trans (by simp)

theorem solved_of_gated {s : State} (h : flt s.tRms s.lat.silence = true) :
    s.solved = ⟨s.elems .wht 0 s.lat.bins, [], false⟩ := by rw [State.solved, h]; rfl

theorem solverRun_solved {s : State} (h : flt s.tRms s.lat.silence = false) :
    SolverRun s.lat 0 ((List.range s.lat.bins).map fun k => s.elem .wht k) [] s.solved := by
  rw [State.solved, h, elems_eq_map_range]
  exact solverRun_solveLoop s.lat (Nat.zero_add _) (by simp) (by simp)

theorem elem_solveEvent_scr (s : State) {k : Nat} (hk : k < s.lat.bins) :
    (solveEvent s).elem .scr k = s.solved.scr.getD k 0 := by
  have hk' : k < s.solved.scr.length := by rwa [length_solved_scr]
  rw [List.getD_eq_getElem _ _ hk']
  exact elem_setElems_zero s .scr hk'

/-- Settles O35: the event stores what the loop leaves, and the loop is a run of the relation. -/
theorem solveFollowsItsRule : Obligations.SolveFollowsItsRule := by
  intro s he
  have hlen : s.solved.cands.length ≤ 16 := (solve_bounds ..).2.trans (by omega)
  refine ⟨_, next_singleStage he .solve solveEvent, fun hg => ⟨fun k hk => ?gatedScr, ?gatedRegs⟩,
    fun hg => ⟨s.solved, solverRun_solved hg, fun k hk => ?scr, ?nc, hlen, fun i hi => ?cands, ?flags⟩,
    fun a ha => ?bytes, finished_finish rfl (by simp), ?frame⟩
  case gatedScr =>
    rw [finish_elem, elem_solveEvent_scr s hk, solved_of_gated hg, List.getD_eq_getElem _ _ (by simpa using hk),
      getElem_elems, Nat.zero_add]
  case scr => rw [finish_elem, elem_solveEvent_scr s hk]
  case bytes =>
    rw [finish_mem]
    exact Memory.readByte_writeWords_outside _ s.solved.scr (by rwa [length_solved_scr])
  all_goals rw [finish_frame, solveEvent_eq]
  case gatedRegs => simp [solved_of_gated hg, hg]
  case nc => rw [BitVec.toNat_ofNat]; omega
  case cands => exact List.getD_append _ _ _ _ hi
  case flags => exact ⟨hg, rfl⟩
  case frame =>
    refine ⟨?_, ?_, ?_, ?_, ?_⟩
    · constructor <;> constructor <;> rfl
    all_goals constructor <;> rfl

end Sys2Proof.Machine
end

section
/-! SUPPORT. The laws of a SOLVE on a finite, non-negative spectrum (R116): no pass raises a bin, so what an emitted candidate
was not beaten by stays unbeaten. -/

namespace Sys2Proof.Machine

/-! ### Rounding and order -/

/-- What is at most a step of the ladder is rounded to at most that step. -/
theorem IsNearestStep.le_of_le_units {x : ℝ} {n k : Nat} (h : IsNearestStep x n) (hx : x ≤ unitsOfBits k) : n ≤ k := by
  by_contra hlt
  have hbelow := h.below k (not_le.mp hlt)
  have hstep : (unitsOfBits k : ℝ) < unitsOfBits n := by exact_mod_cast unitsOfBits_strictMono (not_le.mp hlt)
  unfold halfway at hbelow
  linarith

theorem roundBits_le_of_le_units {num den k : Nat} (hd : 0 < den) (h : num * 2 ^ 149 ≤ unitsOfBits k * den) :
    roundBits num den ≤ k := by
  obtain ⟨n, hn, hnear⟩ := exists_roundBits_eq num hd
  have hx : (num : ℝ) * 2 ^ 149 / den ≤ unitsOfBits k := by
    rw [div_le_iff₀ (by positivity)]; exact_mod_cast h
  exact hn ▸ (Nat.min_le_left ..).trans (hnear.le_of_le_units hx)

theorem forder_rne32 (neg : Bool) (num den : Nat) :
    forder (rne32 neg num den) = if neg then -(roundBits num den : Int) else roundBits num den := by
  have hb : fbits (rne32 neg num den) = roundBits num den := fbits_fpack ((roundBits_le num den).trans_lt infBits_lt)
  rw [forder, fsign_rne32, hb]

theorem forder_zero : forder 0 = 0 := by decide

@[simp] theorem forder_fpack_zero (neg : Bool) : forder (fpack neg 0) = 0 := by cases neg <;> decide

@[simp] theorem forder_fneg (a : Word) : forder (fneg a) = -forder a := by
  rw [forder, forder, fsign_fneg, fbits_fneg]
  cases fsign a <;> simp

/-- From zero up the bits are the order, those of -0.0 too. -/
theorem forder_eq_fbits {a : Word} (h : 0 ≤ forder a) : forder a = fbits a := by
  unfold forder at *
  split
  case isTrue hs => rw [if_pos hs] at h; omega
  case isFalse => rfl

/-- Finite and non-negative, in the order of the comparisons. -/
theorem finiteNonneg_iff (v : Word) : finiteNonneg v = true ↔ isFinite v = true ∧ 0 ≤ forder v := by
  rw [finiteNonneg, Bool.and_eq_true, Bool.not_eq_true', ← Bool.not_eq_true, flt, fgt_iff, forder_zero]
  refine and_congr_right fun hv => ?_
  have hzero : isNaN 0 = false := by decide
  rw [isNaN_of_isFinite hv, hzero]
  simp

theorem isNaN_of_finiteNonneg {v : Word} (h : finiteNonneg v = true) : isNaN v = false :=
  isNaN_of_isFinite ((finiteNonneg_iff v).mp h).1

theorem fgt_iff_forder {a b : Word} (ha : finiteNonneg a = true) (hb : finiteNonneg b = true) :
    fgt a b = true ↔ forder b < forder a := by
  simp [fgt_iff, isNaN_of_finiteNonneg ha, isNaN_of_finiteNonneg hb]

theorem fgt_eq_false_iff_forder {a b : Word} (ha : finiteNonneg a = true) (hb : finiteNonneg b = true) :
    fgt a b = false ↔ forder a ≤ forder b := by
  rw [← Bool.not_eq_true, fgt_iff_forder ha hb, not_lt]

/-! ### Products and differences of non-negative numbers -/

/-- A product of finite non-negative patterns is a number from zero up, or +infinity. -/
theorem fmul_nonneg {a b : Word} (ha : finiteNonneg a = true) (hb : finiteNonneg b = true) :
    isNaN (fmul a b) = false ∧ 0 ≤ forder (fmul a b) := by
  obtain ⟨hafin, ha0⟩ := (finiteNonneg_iff a).mp ha
  obtain ⟨hbfin, hb0⟩ := (finiteNonneg_iff b).mp hb
  have hzero {v : Word} (hs : fsign v = true) (h0 : 0 ≤ forder v) : fmag v = 0 := by
    rw [forder, if_pos hs] at h0
    rw [fmag, show fbits v = 0 by omega, unitsOfBits_zero]
  rw [fmul_of_isFinite hafin hbfin]
  refine ⟨isNaN_rne32 .., ?_⟩
  rw [forder_rne32]
  split
  case isFalse => exact Int.natCast_nonneg _
  case isTrue hs =>
    have hprod : fmag a * fmag b = 0 := by
      cases hsa : fsign a with
      | true => rw [hzero hsa ha0, Nat.zero_mul]
      | false =>
        rw [hsa, Bool.false_xor] at hs
        rw [hzero hs hb0, Nat.mul_zero]
    have hround {den : Nat} (hd : 0 < den) : roundBits (fmag a * fmag b) den ≤ 0 :=
      roundBits_le_of_le_units hd (by rw [hprod, Nat.zero_mul]; exact Nat.zero_le _)
    rw [Nat.le_zero.mp (hround (Nat.two_pow_pos _))]
    rfl

/-- A number from zero up, subtracted, raises nothing: the exact difference is not greater, and rounding keeps order. -/
theorem forder_fsub_le {v p : Word} (hv : finiteNonneg v = true) (hp : isNaN p = false) (hp0 : 0 ≤ forder p) :
    forder (fsub v p) ≤ forder v := by
  obtain ⟨hfin, hv0⟩ := (finiteNonneg_iff v).mp hv
  by_cases hpfin : isFinite p = true
  case neg =>
    have hinf : isInf (fneg p) = true := by
      simp only [isFinite, isNaN, isInf, fbits_fneg, decide_eq_true_eq, decide_eq_false_iff_not, beq_iff_eq] at *
      omega
    rw [fsub, fadd_comm_of_isInf hinf (isNaN_of_isFinite hfin), fadd_of_isInf hinf (isNaN_of_isFinite hfin),
      if_neg (by simp [isInf_of_isFinite hfin]), forder_fneg]
    omega
  case pos =>
    have hp0' : 0 ≤ fval p := not_lt.mp fun h => not_lt.mpr hp0 (forder_zero ▸ (forder_lt_iff 0 p).mpr h)
    rw [fsub_of_isFinite hfin hpfin]
    split
    case isTrue => rwa [forder_fpack_zero]
    case isFalse =>
      rw [forder_rne32]
      split
      case isTrue => omega
      case isFalse hs =>
        have hdiff : 0 ≤ fval v - fval p := by simpa using hs
        have hmag : (fval v - fval p).natAbs ≤ fmag v := by
          have := fval_of_finiteNonneg hv
          omega
        rw [forder_eq_fbits hv0]
        exact_mod_cast roundBits_le_of_le_units (Nat.two_pow_pos 149) (Nat.mul_le_mul_right _ hmag)

/-! ### Lowered values -/

/-- `w` is a number from zero up to `v`. -/
structure Lowered (v w : Word) : Prop where
  nonneg : 0 ≤ forder w
  le : forder w ≤ forder v

theorem finiteNonneg_of_lowered {v w : Word} (h : Lowered v w) (hv : finiteNonneg v = true) : finiteNonneg w = true := by
  obtain ⟨hw0, hle⟩ := h
  obtain ⟨hfin, hv0⟩ := (finiteNonneg_iff v).mp hv
  rw [forder_eq_fbits hw0, forder_eq_fbits hv0] at hle
  refine (finiteNonneg_iff w).mpr ⟨?_, hw0⟩
  simp only [isFinite, decide_eq_true_eq] at *
  omega

theorem Lowered.refl {v : Word} (h : finiteNonneg v = true) : Lowered v v := ⟨((finiteNonneg_iff v).mp h).2, le_rfl⟩

theorem Lowered.trans {u v w : Word} (h : Lowered u v) (h' : Lowered v w) : Lowered u w := ⟨h'.nonneg, h'.le.trans h.le⟩

theorem lowered_zero {v : Word} (h : finiteNonneg v = true) : Lowered v 0 :=
  ⟨forder_zero.ge, forder_zero.trans_le ((finiteNonneg_iff v).mp h).2⟩

/-- The subtraction at a harmonic (R115 step 5). -/
theorem lowered_fmax0_fsub {v p : Word} (hv : finiteNonneg v = true) (hp : isNaN p = false) (hp0 : 0 ≤ forder p) :
    Lowered v (fmax0 (fsub v p)) := by
  rw [fmax0]
  split
  case isTrue hgt => exact ⟨forder_zero ▸ ((fgt_iff ..).mp hgt).2.2.le, forder_fsub_le hv hp hp0⟩
  case isFalse => exact lowered_zero hv

/-- Every bin of the spectrum is finite and non-negative. -/
def Spectrum (xs : List Word) : Prop := ∀ b, finiteNonneg (xs.getD b 0) = true

/-- Every bin of `ys` is lowered from that of `xs`. -/
def AllLowered (xs ys : List Word) : Prop := ∀ b, Lowered (xs.getD b 0) (ys.getD b 0)

theorem AllLowered.spectrum {xs ys : List Word} (h : AllLowered xs ys) (hxs : Spectrum xs) : Spectrum ys :=
  fun b => finiteNonneg_of_lowered (h b) (hxs b)

/-- A window's bins, lowered one by one. -/
theorem NearUpdated.allLowered {l : Latched} {t : Nat} {f : Word → Word} {xs ys : List Word}
    (h : NearUpdated l t f xs ys) (hf : ∀ v, finiteNonneg v = true → Lowered v (f v)) (hxs : Spectrum xs) :
    AllLowered xs ys := by
  intro b
  by_cases hb : b < xs.length
  case pos =>
    rw [h.bins b hb]
    split
    · exact hf _ (hxs b)
    · exact .refl (hxs b)
  case neg =>
    have hxb : xs.getD b 0 = 0 := List.getD_eq_default _ _ (not_lt.mp hb)
    have hyb : ys.getD b 0 = 0 := List.getD_eq_default _ _ (h.length ▸ not_lt.mp hb)
    rw [hxb, hyb]
    exact .refl (by decide)

theorem HarmonicsSubtracted.allLowered {l : Latched} {k h : Nat} {a : Word} {xs ys : List Word}
    (hs : HarmonicsSubtracted l k a h xs ys) (hsub : finiteNonneg l.hsub = true) (ha : finiteNonneg a = true)
    (hxs : Spectrum xs) : AllLowered xs ys := by
  obtain ⟨hp, hp0⟩ := fmul_nonneg hsub ha
  induction hs with
  | beyond => exact fun b => .refl (hxs b)
  | harmonic _ hnear _ ih =>
    have hlow := hnear.allLowered (fun v hv => lowered_fmax0_fsub hv hp hp0) hxs
    exact fun b => (hlow b).trans (ih (hlow.spectrum hxs) b)

/-! ### The candidates of a run -/

/-- What R116 says of a candidate `c` and a later one `d`. -/
structure Precedes (l : Latched) (c d : Cand) : Prop where
  not_louder : fgt d.mag c.mag = false
  bin_ne : c.bin ≠ d.bin
  tie : c.mag = d.mag → c.bin.toNat < d.bin.toNat
  not_harmonic : ∀ h, 2 ≤ h → h * c.bin.toNat ≤ l.bins - 1 → d.bin.toNat ∉ near l (h * c.bin.toNat)

/-- The laws of a list of candidates (R116). -/
structure CandidateLaws (l : Latched) (cs : List Cand) : Prop where
  floor : ∀ c ∈ cs, fgt c.mag l.nfloor = true
  ordered : cs.Pairwise (Precedes l)

/-- Bin `k` with value `v` is settled for an emitted candidate `c`: it is no louder, quieter if it lies below, and at the
noise floor if it is the candidate's own bin. -/
structure Settled (l : Latched) (c : Cand) (k : Nat) (v : Word) : Prop where
  le_mag : forder v ≤ forder c.mag
  at_floor : k = c.bin.toNat → forder v ≤ forder l.nfloor
  below : k < c.bin.toNat → forder v < forder c.mag

theorem Settled.lowered {l : Latched} {c : Cand} {k : Nat} {v w : Word} (h : Settled l c k v) (hw : Lowered v w) :
    Settled l c k w :=
  ⟨hw.le.trans h.le_mag, fun hk => hw.le.trans (h.at_floor hk), fun hk => hw.le.trans_lt (h.below hk)⟩

/-- The solver's invariant: the laws of the candidates so far, for each of which every bin above DC is settled. -/
structure SolverInv (l : Latched) (scr : List Word) (cs : List Cand) : Prop where
  spectrum : Spectrum scr
  mags : ∀ c ∈ cs, finiteNonneg c.mag = true
  laws : CandidateLaws l cs
  settled : ∀ c ∈ cs, ∀ k, 1 ≤ k → k < l.bins → Settled l c k (scr.getD k 0)

theorem SolverInv.lowered {l : Latched} {scr scr' : List Word} {cs : List Cand} (h : SolverInv l scr cs)
    (hlow : AllLowered scr scr') : SolverInv l scr' cs where
  spectrum := hlow.spectrum h.spectrum
  mags := h.mags
  laws := h.laws
  settled c hc k h1 hk := (h.settled c hc k h1 hk).lowered (hlow k)

section Peak
variable {l : Latched} {scr : List Word} {cs : List Cand} {k : Nat}

/-- A peak above the floor outside every harmonic window follows the candidates emitted before it. -/
theorem SolverInv.precedes (h : SolverInv l scr cs) (hnf : finiteNonneg l.nfloor = true) (h1 : 1 ≤ k) (hk : k < l.bins)
    (hfloor : fgt (scr.getD k 0) l.nfloor = true) (hskip : ¬ Skips l cs k) {c : Cand} (hc : c ∈ cs) :
    Precedes l c (candidate l k (scr.getD k 0)) := by
  obtain ⟨hle, hown, hbelow⟩ := h.settled c hc k h1 hk
  have hbin := toNat_bin_candidate hk (scr.getD k 0)
  have hne : c.bin.toNat ≠ k := fun he =>
    not_lt.mpr (hown he.symm) ((fgt_iff_forder (h.spectrum k) hnf).mp hfloor)
  refine ⟨(fgt_eq_false_iff_forder (h.spectrum k) (h.mags c hc)).mpr hle, fun he => ?bin, fun he => ?tie,
    fun j hj hjle hmem => hskip ⟨c, hc, j, hj, hjle, hbin ▸ hmem⟩⟩
  case bin => exact hne (he ▸ hbin)
  case tie =>
    rw [hbin]
    refine lt_of_le_of_ne (not_lt.mp fun hlt => ?_) hne
    exact (hbelow hlt).ne (congrArg forder he).symm

/-- Every bin is settled for a peak once its own window is zeroed. -/
theorem settled_candidate (hscr : Spectrum scr) (hnf : finiteNonneg l.nfloor = true)
    (hpeak : IsPeak (fun j => scr.getD j 0) l.bins k) {scr' : List Word} (hlow : AllLowered scr scr')
    (hzero : forder (scr'.getD k 0) ≤ 0) {j : Nat} (h1 : 1 ≤ j) (hj : j < l.bins) :
    Settled l (candidate l k (scr.getD k 0)) j (scr'.getD j 0) := by
  obtain ⟨⟨_, hk⟩, -, -, hlargest, hlowest⟩ := hpeak
  have hnan (b : Nat) : isNaN (scr.getD b 0) = false := isNaN_of_finiteNonneg (hscr b)
  have hle := (fgt_eq_false_iff_forder (hscr j) (hscr k)).mp (hlargest (hnan 1) j h1 hj)
  refine ⟨(hlow j).le.trans hle, fun he => ?own, fun hlt => (hlow j).le.trans_lt ?below⟩
  all_goals rw [toNat_bin_candidate hk] at *
  case own =>
    rw [he]
    exact hzero.trans ((finiteNonneg_iff _).mp hnf).2
  case below =>
    obtain hn | hgt := hlowest (hnan 1) j h1 hlt
    · exact absurd (hnan j) (by simpa using hn)
    · exact (fgt_iff_forder (hscr k) (hscr j)).mp hgt

/-- Emitting a peak keeps the invariant. -/
theorem SolverInv.emit (h : SolverInv l scr cs) (hnf : finiteNonneg l.nfloor = true)
    (hpeak : IsPeak (fun j => scr.getD j 0) l.bins k) (hfloor : fgt (scr.getD k 0) l.nfloor = true)
    (hskip : ¬ Skips l cs k) {scr' : List Word} (hlow : AllLowered scr scr') (hzero : forder (scr'.getD k 0) ≤ 0) :
    SolverInv l scr' (cs ++ [candidate l k (scr.getD k 0)]) := by
  obtain ⟨hspec, hmags, hlaws, hsettled⟩ := h.lowered hlow
  have hsplit {p : Cand → Prop} (hcs : ∀ c ∈ cs, p c) (hnew : p (candidate l k (scr.getD k 0))) :
      ∀ c ∈ cs ++ [candidate l k (scr.getD k 0)], p c := by
    simpa [or_imp, forall_and] using And.intro hcs hnew
  refine ⟨hspec, hsplit hmags (h.spectrum k), ⟨hsplit hlaws.floor hfloor, ?ordered⟩,
    hsplit hsettled fun j h1 hj => settled_candidate h.spectrum hnf hpeak hlow hzero h1 hj⟩
  case ordered =>
    refine List.pairwise_append.mpr ⟨hlaws.ordered, List.pairwise_singleton .., fun c hc d hd => ?_⟩
    rw [List.mem_singleton.mp hd]
    exact h.precedes hnf hpeak.range.1 hpeak.range.2 hfloor hskip hc

end Peak

/-- Zeroing the window of a bin zeroes the bin (R112, R115). -/
theorem NearUpdated.getD_self {l : Latched} {k : Nat} {xs ys : List Word} (h : NearUpdated l k (fun _ => 0) xs ys)
    (h1 : 1 ≤ k) (hk : k < l.bins) : ys.getD k 0 = 0 := by
  by_cases hlen : k < xs.length
  case pos => rw [h.bins k hlen, if_pos ((mem_near h1 (by omega)).mpr ⟨h1, by omega, inTolerance_self ..⟩)]
  case neg => exact List.getD_eq_default _ _ (h.length ▸ not_lt.mp hlen)

/-- Every run keeps the invariant, so its candidates obey the laws (R116). -/
theorem SolverRun.candidateLaws {l : Latched} (hnf : finiteNonneg l.nfloor = true) (hsub : finiteNonneg l.hsub = true)
    {iter : Nat} {scr : List Word} {cs : List Cand} {r : Solved} (hrun : SolverRun l iter scr cs r)
    (h : SolverInv l scr cs) : CandidateLaws l r.cands := by
  have hzeroed {k : Nat} {xs ys : List Word} (hxs : Spectrum xs) (hnear : NearUpdated l k (fun _ => 0) xs ys) :
      AllLowered xs ys := hnear.allLowered (fun _ => lowered_zero) hxs
  induction hrun with
  | cap | noiseFloor => exact h.laws
  | skip _ _ _ _ hnear _ ih => exact ih (h.lowered (hzeroed h.spectrum hnear))
  | @emit iter k scr scr' scr'' cs r _ hpeak hfloor hskip hnear hharm _ ih =>
    have hlow := hzeroed h.spectrum hnear
    have hlow' := hharm.allLowered hsub (h.spectrum k) (hlow.spectrum h.spectrum)
    refine ih (h.emit hnf hpeak hfloor hskip (fun b => (hlow b).trans (hlow' b)) ?zero)
    case zero =>
      have hk := hnear.getD_self hpeak.range.1 hpeak.range.2
      exact (hlow' k).le.trans_eq (by rw [hk, forder_zero])

theorem solverInv_start {l : Latched} {scr : List Word} (h : Spectrum scr) : SolverInv l scr [] :=
  ⟨h, by simp, ⟨by simp, .nil⟩, by simp⟩

theorem spectrum_elems {s : State} {g : Region} {n : Nat} (h : ∀ k, k < n → finiteNonneg (s.elem g k) = true) :
    Spectrum ((List.range n).map fun k => s.elem g k) := by
  intro b
  by_cases hb : b < n
  case pos => simpa [hb] using h b hb
  case neg =>
    have hzero : finiteNonneg 0 = true := by decide
    simpa [hb] using hzero

/-- Settles O36: the event's candidates are those of a run, which begins with none. -/
theorem solveLaws : Obligations.SolveLaws := by
  intro s he hwht hnf hsub _
  obtain ⟨t, ht, hgated, hrun, -⟩ := solveFollowsItsRule s he
  refine ⟨t, ht, ?_⟩
  dsimp only
  cases hg : flt s.tRms s.lat.silence with
  | true =>
    obtain ⟨-, hnc, -⟩ := hgated hg
    simp [hnc]
  | false =>
    obtain ⟨r, hr, -, hnc, -, hwc, -⟩ := hrun hg
    obtain ⟨hfloor, hordered⟩ := hr.candidateLaws hnf hsub (solverInv_start (spectrum_elems hwht))
    have hget {i : Nat} (hi : i < r.cands.length) : t.wc.getD i Cand.zero = r.cands[i] := by
      rw [hwc i hi, List.getD_eq_getElem]
    rw [hnc]
    refine ⟨by simpa using hr.length_cands_le, fun i hi => ?_, fun i j hij hj => ?_⟩
    · rw [hget hi]; exact hfloor _ (List.getElem_mem hi)
    · rw [hget hj, hget (hij.trans hj)]
      obtain ⟨hmag, hbin, htie, hharm⟩ := List.pairwise_iff_getElem.mp hordered i j (hij.trans hj) hj hij
      exact ⟨hmag, hbin, htie, hharm⟩

end Sys2Proof.Machine
end

section
/-! SUPPORT. What one event of the block can do to the result bank, said once: it leaves it alone, publishes once, or begins
or ends a session (R120, R126, R147). RES_SEQ then counts the publishes of a session (R123). -/

namespace Sys2Proof.Machine

/-! ### Events that leave the results alone -/

theorem SameResults.refl (s : State) : SameResults s s := ⟨rfl, rfl⟩

theorem SameResults.trans {s t u : State} (h : SameResults s t) (k : SameResults t u) : SameResults s u :=
  ⟨k.bank.trans h.bank, k.cand.trans h.cand⟩

section Operations
variable (s : State)

theorem sameResults_finish : SameResults s (finish s) := (sameDatapath_finish s).results

theorem sameResults_requestTeardown : SameResults s (requestTeardown s) := by
  obtain ⟨_, h⟩ | ⟨_, h⟩ := requestTeardown_cases s <;> rw [h] <;> exact ⟨rfl, rfl⟩

theorem sameResults_accept (i : Instr) (st : Stage) : SameResults s (accept i st s) := by
  obtain ⟨_, h⟩ | ⟨_, _, h⟩ | ⟨_, _, _, h⟩ | ⟨_, _, _, h⟩ := accept_cases i st s <;> rw [h] <;> exact ⟨rfl, rfl⟩

theorem sameResults_singleStage (i : Instr) (st : Stage) {event : State → State} (h : SameResults s (event s)) :
    SameResults s (singleStage i st event s) := by
  obtain ⟨_, e⟩ | ⟨_, e⟩ := singleStage_cases i st event s <;> rw [e]
  · exact h.trans (sameResults_finish _)
  · exact sameResults_accept s i st

theorem sameResults_setProg (who : Agent) (ops : List AgentOp) : SameResults s (s.setProg who ops) := by
  cases who <;> exact ⟨rfl, rfl⟩

theorem sameResults_busRead (a : Addr) (size : Nat) : SameResults s (busRead a size s) := by
  obtain ⟨_, _, _, h⟩ | ⟨_, h⟩ := busRead_cases a size s <;> rw [h] <;> exact ⟨rfl, rfl⟩

theorem sameResults_writeReg (a : Addr) (r : Reg) (v : Word) : SameResults s (writeReg a r v s) := by
  cases r with
  | cfg c => simp only [writeReg, writeCfg]; split <;> exact ⟨rfl, rfl⟩
  | _ => exact ⟨rfl, rfl⟩

theorem sameResults_writeElem (a : Addr) (g : Region) (v : Word) : SameResults s (writeElem a g v s) := by
  unfold writeElem
  split <;> exact ⟨rfl, rfl⟩

theorem sameResults_advance (st : Stage) : SameResults s (advance st s) := ⟨rfl, rfl⟩
theorem sameResults_takeSnapshot : SameResults s (takeSnapshot s) := ⟨rfl, rfl⟩
theorem sameResults_transientEvent : SameResults s (transientEvent s) := ⟨by simp, by simp⟩
theorem sameResults_windowEvent : SameResults s (windowEvent s) := ⟨by simp, by simp⟩
theorem sameResults_zeropadEvent : SameResults s (zeropadEvent s) := ⟨by simp, by simp⟩
theorem sameResults_fftEvent : SameResults s (fftEvent s) := ⟨by simp, by simp⟩
theorem sameResults_magEvent : SameResults s (magEvent s) := ⟨by simp, by simp⟩
theorem sameResults_whitenEvent : SameResults s (whitenEvent s) := ⟨by simp, by simp⟩
theorem sameResults_solveEvent : SameResults s (solveEvent s) := ⟨by simp, by simp⟩

end Operations

/-! ### The events of the results -/

/-- What one event can do to the result bank. -/
inductive ResultEvent (s t : State) : Prop where
  | kept : SameResults s t → ResultEvent s t
  | published : t.bank.seq = s.bank.seq + 1 → ResultEvent s t
  | started : s.mode = .idle → ResultEvent s t
  | reset : t.mode = .idle → ResultEvent s t

section Events
variable {s t : State}

/-- PUBLISH's event and its `finish()` count RES_SEQ up (R120). -/
theorem resultEvent_published (s : State) : ResultEvent s (finish (publishEvent s)) :=
  .published (congrArg Bank.seq (sameResults_finish (publishEvent s)).bank)

theorem execPush_results {ch : BitVec 8} (h : execPush ch s = .next t) : SameResults s t := by
  obtain ⟨_, e⟩ | ⟨_, _, e⟩ | ⟨_, _, _, e⟩ | ⟨_, _, _, e⟩ := execPush_cases ch s <;> rw [e] at h <;> cases h
  case inr.inr.inr => rw [overrunCheck_frame]; exact ⟨rfl, rfl⟩
  all_goals exact ⟨rfl, rfl⟩

theorem execNop_results (h : execNop s = .next t) : SameResults s t := by
  unfold execNop at h
  split_ifs at h <;> cases h <;> exact ⟨rfl, rfl⟩

theorem execSnapshot_results (h : execSnapshot s = .next t) : SameResults s t := by
  unfold execSnapshot at h
  split_ifs at h <;> cases h
  · exact .refl s
  · exact sameResults_finish s
  · exact (sameResults_takeSnapshot s).trans (sameResults_finish _)
  · exact sameResults_accept ..

theorem stepStage_results (h : stepStage s = .next t) : ResultEvent s t := by
  obtain ⟨_, e⟩ | ⟨_, _, e⟩ | ⟨_, _, _, e⟩ | ⟨_, _, _, e⟩ | ⟨_, e⟩ | ⟨_, e⟩ | ⟨_, e⟩ | ⟨_, e⟩ | ⟨_, e⟩ | ⟨_, e⟩ | ⟨_, e⟩ |
    ⟨_, e⟩ := stepStage_cases s <;> rw [e] at h <;> cases h
  · exact .kept (.refl s)
  · exact .kept (sameResults_finish s)
  · exact .kept ((sameResults_takeSnapshot s).trans (sameResults_advance ..))
  · exact .kept ((sameResults_transientEvent s).trans (sameResults_advance ..))
  · exact .kept ((sameResults_windowEvent s).trans (sameResults_advance ..))
  · exact .kept ((sameResults_zeropadEvent s).trans (sameResults_advance ..))
  · exact .kept ((sameResults_fftEvent s).trans (sameResults_advance ..))
  · exact .kept ((sameResults_magEvent s).trans (sameResults_advance ..))
  · exact .kept ((sameResults_whitenEvent s).trans (sameResults_advance ..))
  · exact .kept ((sameResults_solveEvent s).trans (sameResults_advance ..))
  · exact resultEvent_published s

theorem execStart_results (h : execStart s = .next t) : ResultEvent s t := by
  obtain ⟨_, e⟩ | ⟨_, hm, _, _⟩ | ⟨hm, _, _⟩ := execStart_cases s
  · rw [e] at h; cases h; exact .kept ⟨rfl, rfl⟩
  · exact .started hm
  · exact .started hm

theorem execStop_results (h : execStop s = .next t) : SameResults s t := by
  unfold execStop at h
  split at h <;> cases h
  · exact sameResults_requestTeardown s
  · exact .refl s

theorem execClrfault_results (h : execClrfault s = .next t) : SameResults s t := by
  have hclear : SameResults s (clearFault s) := ⟨rfl, rfl⟩
  unfold execClrfault at h
  split at h <;> cases h
  · exact hclear.trans (sameResults_requestTeardown _)
  · exact hclear

theorem execSrst_results {key : BitVec 8} (h : execSrst key s = .next t) : ResultEvent s t := by
  unfold execSrst at h
  split at h <;> cases h
  · exact .reset rfl
  · exact .kept ⟨rfl, rfl⟩

theorem exec_results {i : Instr} (h : exec i s = .next t) : ResultEvent s t := by
  cases i with
  | push ch => exact .kept (execPush_results h)
  | nop => exact .kept (execNop_results h)
  | snapshot => exact .kept (execSnapshot_results h)
  | transient => cases h; exact .kept (sameResults_singleStage _ _ _ (sameResults_transientEvent s))
  | window => cases h; exact .kept (sameResults_singleStage _ _ _ (sameResults_windowEvent s))
  | zeropad => cases h; exact .kept (sameResults_singleStage _ _ _ (sameResults_zeropadEvent s))
  | fft => cases h; exact .kept (sameResults_singleStage _ _ _ (sameResults_fftEvent s))
  | mag => cases h; exact .kept (sameResults_singleStage _ _ _ (sameResults_magEvent s))
  | whiten => cases h; exact .kept (sameResults_singleStage _ _ _ (sameResults_whitenEvent s))
  | solve => cases h; exact .kept (sameResults_singleStage _ _ _ (sameResults_solveEvent s))
  | publish =>
    cases h
    obtain ⟨_, e⟩ | ⟨_, e⟩ := singleStage_cases .publish .publish publishEvent s <;> rw [e]
    · exact resultEvent_published s
    · exact .kept (sameResults_accept ..)
  | step =>
    simp only [exec, execStep] at h
    split at h
    · exact stepStage_results h
    · cases h; exact .kept (sameResults_accept ..)
  | start => exact execStart_results h
  | stop => exact .kept (execStop_results h)
  | clrfault => exact .kept (execClrfault_results h)
  | srst key => exact execSrst_results h

/-- An event on the results is the same whatever the launch's fields hold. -/
theorem ResultEvent.of_sameBlock {u : State} (hu : SameBlock s u) (h : ResultEvent u t) : ResultEvent s t := by
  rw [hu] at h
  cases h with
  | kept h => exact .kept ⟨h.bank, h.cand⟩
  | published h => exact .published h
  | started hm => exact .started hm
  | reset hm => exact .reset hm

theorem submit_results {p : Port} {w : Word} (h : submit p w s = .next t) : ResultEvent s t := by
  obtain ⟨i, _, e⟩ | ⟨_, _, e⟩ := submit_cases p w s <;> rw [e] at h
  · exact exec_results h
  · cases h; exact .kept ⟨rfl, rfl⟩

theorem busWrite_results {a : Addr} {size : Nat} {v : Word} (h : busWrite a size v s = .next t) : ResultEvent s t := by
  have hanswer : SameBlock s (answer 0 s) := rfl
  obtain ⟨_, e⟩ | ⟨p, _, _, e⟩ | ⟨r, _, _, _, e⟩ | ⟨g, _, _, e⟩ | ⟨_, _, e⟩ := busWrite_cases a size v s <;> rw [e] at h
  · cases h; exact .kept ⟨rfl, rfl⟩
  · exact (submit_results h).of_sameBlock hanswer
  · cases h; exact .of_sameBlock hanswer (.kept (sameResults_writeReg ..))
  · cases h; exact .of_sameBlock hanswer (.kept (sameResults_writeElem ..))
  · cases h; exact .kept ⟨rfl, rfl⟩

theorem performOp_results {who : Agent} {op : AgentOp} {rest : List AgentOp} (h : performOp who op rest s = .next t) :
    ResultEvent s t := by
  obtain ⟨a, size, v, _, e⟩ | ⟨a, size, _, e⟩ | ⟨a, mask, val, _, e⟩ := performOp_cases who op rest s <;> rw [e] at h
  · refine (busWrite_results h).of_sameBlock ?_
    rw [markRole_eq]
    cases who <;> rfl
  · cases h; exact .kept ((sameResults_setProg ..).trans (sameResults_busRead ..))
  · cases h
    split
    · exact .kept ((sameResults_busRead ..).trans (sameResults_setProg ..))
    · exact .kept (sameResults_busRead ..)

theorem sequencerEvent_results (h : sequencerEvent s = .next t) : ResultEvent s t := by
  obtain ⟨_, e⟩ | ⟨i, _, _, _, e⟩ | ⟨_, e⟩ := sequencerEvent_cases s <;> rw [e] at h
  · cases h; exact .kept ⟨rfl, rfl⟩
  · exact exec_results h
  · cases h

theorem agentEvent_results {who : Agent} (h : agentEvent who s = .next t) : ResultEvent s t := by
  unfold agentEvent at h
  split at h
  · exact sequencerEvent_results h
  all_goals
    split at h
    · cases h; exact .kept (.refl s)
    · exact performOp_results h

/-- What a step can do to the result bank. -/
theorem step_results (h : step s = .next t) : ResultEvent s t := by
  obtain ⟨_, who, u, hc, hev⟩ := step_cases h
  obtain ⟨_, _, _, _, rfl⟩ := chooseAgent_some hc
  refine ResultEvent.of_sameBlock ?_ (agentEvent_results hev)
  rfl

end Events

/-! ### The count of publishes -/

/-- Inside a session RES_SEQ counts the publishes, at most one for each event, and a run without one leaves the results
alone (R123). -/
theorem resSeq_of_sessionRun {n : Nat} {s t : State} (h : SessionRun n s t) :
    ∃ k ≤ n, t.bank.seq = s.bank.seq + BitVec.ofNat 32 k ∧ (k = 0 → SameResults s t) := by
  induction h with
  | refl s => exact ⟨0, le_refl 0, (BitVec.add_zero _).symm, fun _ => .refl s⟩
  | tail _ hst ht hu ih =>
    obtain ⟨k, hk, hseq, hsame⟩ := ih
    cases step_results hst with
    | kept h => exact ⟨k, by omega, by rw [h.bank, hseq], fun h0 => (hsame h0).trans h⟩
    | published h => exact ⟨k + 1, by omega, by rw [h, hseq, BitVec.ofNat_add, BitVec.add_assoc]; rfl, nofun⟩
    | started hm => exact absurd hm ht
    | reset hm => exact absurd hm hu

/-- Settles O43: fewer than 2^32 publishes that leave RES_SEQ where it was are none. -/
theorem seqlockDetectsEveryPublish : Obligations.SeqlockDetectsEveryPublish := by
  intro n s t hrun hn hseq
  obtain ⟨k, hk, hcount, hsame⟩ := resSeq_of_sessionRun hrun
  have h0 : k = 0 := by
    rw [hcount] at hseq
    bv_omega
  obtain ⟨hbank, hcand⟩ := hsame h0
  exact ⟨hbank, hcand⟩

end Sys2Proof.Machine
end

section
/-! SUPPORT. The sequencer: acceptance of a word on CCMD, when its event is enabled, the stages as one family of events with
what all of them leave alone, and a STEP as their sequence (R118 to R122). -/

namespace Sys2Proof.Machine

/-! ### Acceptance (R118) -/

/-- A consumer command that the sequencer is not executing arrives: its stages begin with the first (R118). -/
theorem exec_arrives {i : Instr} {s : State} (hp : i.port = .ccmd) (hn : i ≠ .nop) (he : s.executing i = false) :
    exec i s = .next (accept i (i.stages.headD .none) s) := by
  have hne : ¬ s.executing i = true := by simp [he]
  cases i with
  | push | start | stop | clrfault | srst => cases hp
  | nop => exact absurd rfl hn
  | snapshot => exact execSnapshot_arrives he
  | step => exact if_neg hne
  | transient | window | zeropad | fft | mag | whiten | solve | publish => exact congrArg _ (if_neg hne)

/-- Settles O37: ILLEGAL from the decoder, NOP's two refusals, and every other command's acceptance. -/
theorem acceptanceFollowsItsOrder : Obligations.AcceptanceFollowsItsOrder := by
  refine fun s w ht => ⟨0, false, fun e he => ?illegal, fun m hm => ?decoded⟩
  case illegal => exact busWrite_illegal (p := .ccmd) (by simp [he]) s
  case decoded =>
    have hsubmit : busWrite 0x01C 4 w s = exec m (answer 0 s) := by
      refine (busWrite_port .ccmd w s).trans ?_
      rw [submit, hm]
    obtain ⟨hp, -, rfl⟩ := decode_eq_ok_iff.mp hm
    rw [hsubmit]
    by_cases hn : m = .nop
    · subst hn
      simp only [ne_eq, not_true_eq_false, false_and, if_false, if_true]
      rfl
    · have he : (answer 0 s).executing m = false := by simp [State.executing, ht]
      rw [exec_arrives hp hn he, accept, apply_ite Host.Outcome.next, apply_ite Host.Outcome.next,
        apply_ite Host.Outcome.next]
      simp only [hn, ne_eq, not_false_eq_true, true_and, if_false]
      rfl

/-! ### The sequencer's event (R119, R122) -/

/-- A running command's event is enabled unless it is held; a free sequencer's is the AUTO start. -/
theorem sequencer_enabled_iff (s : State) : s.enabled .sequencer = true ↔
    (s.cbusy = true ∧ (s.cstage ≠ .snapshot ∨ 128 ≤ (s.w - s.r).toNat ∨ s.mode ≠ .running)) ∨
    (s.cbusy = false ∧ s.auto = true ∧ s.mode = .running ∧ 128 ≤ (s.w - s.r).toNat) := by
  have hready := snapshotReady_iff s
  simp only [State.enabled, State.sequencerReady, State.autoReady, Bool.or_eq_true, Bool.and_eq_true, bne_iff_ne,
    beq_iff_eq, Bool.not_eq_true', decide_eq_true_eq, hready]
  simp only [State.lagSamples, Config.step]
  cases s.cbusy <;> simp [and_assoc]

/-- Settles O42: the sequencer is free, so its event is the AUTO start. -/
theorem autoStartFollowsItsRule : Obligations.AutoStartFollowsItsRule := by
  refine ⟨fun s hb => by simp [sequencer_enabled_iff, hb], fun s u hc hb => ?_⟩
  obtain ⟨he, l, n, m, rfl⟩ := chooseAgent_some hc
  have hword : encode .step = 0x00000060 := by decide
  rw [step_of_choice hc (not_stalled_of_ready he)]
  simp [agentEvent, sequencerEvent, hb, autoStart, startCommand, hword]

/-! ### The stages as one family -/

/-- The stage after this one in a STEP (R121). -/
def Stage.next : Stage → Stage
  | .snapshot => .transient
  | .transient => .window
  | .window => .zeropad
  | .zeropad => .fft
  | .fft => .mag
  | .mag => .whiten
  | .whiten => .solve
  | .solve => .publish
  | .none | .publish => .none

/-- The event of a stage, SNAPSHOT's being its completion (R96 to R120). -/
def Stage.event : Stage → State → State
  | .none => id
  | .snapshot => takeSnapshot
  | .transient => transientEvent
  | .window => windowEvent
  | .zeropad => zeropadEvent
  | .fft => fftEvent
  | .mag => magEvent
  | .whiten => whitenEvent
  | .solve => solveEvent
  | .publish => publishEvent

/-- The command of one stage; stage 0 has none, so it is given NOP, which runs no stage (R118). -/
def Stage.command : Stage → Instr
  | .none => .nop
  | .snapshot => .snapshot
  | .transient => .transient
  | .window => .window
  | .zeropad => .zeropad
  | .fft => .fft
  | .mag => .mag
  | .whiten => .whiten
  | .solve => .solve
  | .publish => .publish

/-- The stage's event can happen: stage 1 waits for a step in RUNNING, and stage 0 has none (R96). -/
def Stage.Runs (st : Stage) (s : State) : Prop :=
  st ≠ .none ∧ (st = .snapshot → s.mode = .running ∧ 128 ≤ s.lagSamples)

theorem snapshotReady_of_runs {s : State} (h : Stage.Runs .snapshot s) : s.snapshotReady = true :=
  (snapshotReady_iff s).mpr (.inl (h.2 rfl).2)

/-- In the sequencer's event a stage's own command is the stage and `finish()` (R119). -/
theorem exec_command {st : Stage} {s : State} (he : s.executing st.command = true) (hr : st.Runs s) :
    exec st.command s = .next (finish (st.event s)) := by
  cases st with
  | none => exact absurd rfl hr.1
  | snapshot => exact execSnapshot_completes he (snapshotReady_of_runs hr) (hr.2 rfl).1
  | _ => exact next_singleStage he ..

/-- Before the last stage a STEP's event is the stage, and goes on to the next (R121). -/
theorem stepStage_goes_on {s : State} (hr : s.cstage.Runs s) (hlast : s.cstage ≠ .publish) :
    stepStage s = .next (advance s.cstage.next (s.cstage.event s)) := by
  cases hst : s.cstage with
  | none => exact absurd hst hr.1
  | publish => exact absurd hst hlast
  | snapshot =>
    rw [hst] at hr
    exact stepStage_takes hst (snapshotReady_of_runs hr) (hr.2 rfl).1
  | _ => simp only [stepStage, hst, Stage.next, Stage.event]

theorem stepStage_publishes {s : State} (hst : s.cstage = .publish) : stepStage s = .next (finish (publishEvent s)) := by
  simp only [stepStage, hst]

theorem exec_step {s : State} (he : s.executing .step = true) : exec .step s = stepStage s := if_pos he

/-! ### What the stages leave alone -/

/-- What every stage before PUBLISH leaves alone: all but the step's registers, the sequencer's stage and the arrays from
WIN to SCR. -/
structure StageKept (s t : State) : Prop where
  frame : t = { s with
    r := t.r, cwait := t.cwait, cstage := t.cstage, wend := t.wend, lag := t.lag
    prevRms := t.prevRms, tRms := t.tRms, tFlux := t.tFlux, tFlags := t.tFlags
    wfloor := t.wfloor, wfirst := t.wfirst, wDombin := t.wDombin, wDomf := t.wDomf
    wNc := t.wNc, wc := t.wc, mem := t.mem }
  bytes : ∀ a, a < Region.addr .win 0 ∨ Region.addr .wcoef 0 ≤ a → t.mem.readByte a = s.mem.readByte a

theorem StageKept.refl (s : State) : StageKept s s := ⟨rfl, fun _ _ => rfl⟩

theorem StageKept.trans {s t u : State} (h : StageKept s t) (k : StageKept t u) : StageKept s u := by
  obtain ⟨hframe, hbytes⟩ := h
  obtain ⟨kframe, kbytes⟩ := k
  exact ⟨kframe.trans (by rw [hframe]), fun a ha => (kbytes a ha).trans (hbytes a ha)⟩

section Kept
variable {s t : State} (h : StageKept s t)
include h

theorem StageKept.mode : t.mode = s.mode := by rw [h.frame]
theorem StageKept.irqPend : t.irqPend = s.irqPend := by rw [h.frame]
theorem StageKept.cbusy : t.cbusy = s.cbusy := by rw [h.frame]
theorem StageKept.curcmd : t.curcmd = s.curcmd := by rw [h.frame]
theorem StageKept.bank : t.bank = s.bank := by rw [h.frame]

theorem StageKept.around : SameAround s t := by
  rw [h.frame]; constructor <;> constructor <;> rfl

theorem StageKept.executing (i : Instr) : t.executing i = s.executing i := by
  rw [State.executing, h.around.launch.turn, h.cbusy, h.curcmd, State.executing]

end Kept

/-- Words stored in an array from WIN to SCR (R69). -/
theorem stageKept_setElems (s : State) {g : Region} (hring : g ≠ .ring) (hcoef : g ≠ .wcoef) {i : Nat} {ws : List Word}
    (hi : i + ws.length ≤ 4096) : StageKept s (s.setElems g i ws) := by
  refine ⟨rfl, fun a ha => ?_⟩
  have hlo := Region.base_of_ne_ring hring
  have hhi : g.base ≤ 0x2C000 := by
    cases g with
    | wcoef => exact absurd rfl hcoef
    | _ => decide
  rw [setElems_mem]
  refine Memory.readByte_writeWords_outside _ _ ?_
  have hbounds : Region.base .win = 0x14000 ∧ Region.base .wcoef = 0x30000 := ⟨rfl, rfl⟩
  simp only [Region.addr] at ha ⊢
  omega

theorem stageKept_advance (s : State) (st : Stage) : StageKept s (advance st s) := ⟨rfl, fun _ _ => rfl⟩

/-- Every stage before PUBLISH stores in its own array and writes its own registers (R96 to R115). -/
theorem stageKept_event (s : State) {st : Stage} (hlast : st ≠ .publish) : StageKept s (st.event s) := by
  have hbins := s.lat.bins_le
  have halen := s.lat.alenN_le
  have hnfft := s.lat.nfftN_le
  cases st with
  | none => exact .refl s
  | publish => exact absurd rfl hlast
  | snapshot =>
    exact (stageKept_setElems s (g := .win) (by decide) (by decide) (i := 0) (ws := s.ringWindow)
      (by rw [length_ringWindow]; omega)).trans ⟨rfl, fun _ _ => rfl⟩
  | transient => exact ⟨by simp only [Stage.event, transientEvent], fun a _ => by simp [Stage.event]⟩
  | window => exact stageKept_setElems s (by decide) (by decide) (by simp; omega)
  | zeropad => exact stageKept_setElems s (by decide) (by decide) (by simp; omega)
  | fft =>
    exact (stageKept_setElems s (g := .xre) (by decide) (by decide) (by rw [List.length_map, length_fftImpl]; omega)).trans
      (stageKept_setElems _ (g := .xim) (by decide) (by decide) (by rw [List.length_map, length_fftImpl]; omega))
  | mag => exact stageKept_setElems s (by decide) (by decide) (by simp; omega)
  | whiten =>
    have hregs (u : State) (first : Bool) (floor bin f : Word) :
        StageKept u { u with wfirst := first, wfloor := floor, wDombin := bin, wDomf := f } := ⟨rfl, fun _ _ => rfl⟩
    rw [Stage.event, whitenEvent_eq]
    exact (stageKept_setElems s (g := .wht) (by decide) (by decide) (by rw [length_whitened]; omega)).trans (hregs ..)
  | solve =>
    rw [Stage.event, solveEvent_eq]
    exact (stageKept_setElems s (g := .scr) (by decide) (by decide) (i := 0) (ws := s.solved.scr)
      (by rw [length_solved_scr]; omega)).trans ⟨rfl, fun _ _ => rfl⟩

/-! ### The commands of one stage -/

theorem SameAround.finish {s u : State} (h : SameAround s u) : SameAround s (finish u) := by
  obtain ⟨hcontrol, hrecord, hlaunch⟩ := h
  rw [finish_frame]
  exact ⟨{ hcontrol with }, { hrecord with }, { hlaunch with }⟩

theorem SameAround.publishEvent {s u : State} (h : SameAround s u) : SameAround s (publishEvent u) := by
  obtain ⟨hcontrol, hrecord, hlaunch⟩ := h
  exact ⟨{ hcontrol with }, { hrecord with }, { hlaunch with }⟩

/-- A stage before PUBLISH, finished (R119). -/
theorem StageKept.finished {s u : State} (h : StageKept s u) : Finished 0 s (finish u) :=
  finished_finish h.mode (by simp [h.irqPend])

/-- PUBLISH's event after such stages, or after none, finished (R119, R120). -/
theorem StageKept.finished_publish {s u : State} (h : StageKept s u) : Finished 0b000001 s (finish (publishEvent u)) :=
  finished_finish (by simp [h.mode]) (by simp [h.irqPend, IrqSource.mask])

/-- What PUBLISH's event leaves in the bank, and where it takes it from (R120). -/
theorem bank_of_publish (u : State) : (finish (publishEvent u)).bank =
    ⟨u.bank.seq + 1, u.wend, u.lag, u.tFlags, u.tRms, u.tFlux, u.wNc, u.wDombin, u.wDomf, u.wfloor⟩ :=
  (sameResults_finish (publishEvent u)).bank

/-- The same with the copied registers as the event leaves them. -/
theorem bank_of_publish_kept (u : State) : (finish (publishEvent u)).bank =
    let t := finish (publishEvent u)
    ⟨u.bank.seq + 1, u.wend, u.lag, t.tFlags, t.tRms, t.tFlux, t.wNc, t.wDombin, t.wDomf, t.wfloor⟩ := by
  rw [bank_of_publish, finish_frame]
  rfl

/-- PUBLISH's event keeps the registers it copies (R120). -/
theorem sameRegisters_publish (u : State) :
    SameWindowRegs u (finish (publishEvent u)) ∧ SameTransientRegs u (finish (publishEvent u)) ∧
      SameWhitenRegs u (finish (publishEvent u)) ∧ SameSolveRegs u (finish (publishEvent u)) := by
  obtain ⟨hwindow, htransient, hwhiten, hsolve, -⟩ := sameDatapath_finish (publishEvent u)
  exact ⟨{ hwindow with }, { htransient with }, { hwhiten with }, { hsolve with }⟩

/-- Settles O39: the bank is copied register by register, and slot by slot. -/
theorem publishCopiesTheStep : Obligations.PublishCopiesTheStep := by
  intro s he
  obtain ⟨hwindow, htransient, hwhiten, hsolve⟩ := sameRegisters_publish s
  refine ⟨_, next_singleStage he .publish publishEvent, ?_⟩
  rw [bank_of_publish, (sameResults_finish (publishEvent s)).cand]
  refine ⟨rfl, rfl, rfl, rfl, rfl, rfl, rfl, rfl, rfl, rfl, fun i hi => ?slots, fun a => ?bytes,
    (StageKept.refl s).finished_publish, (StageKept.refl s).around.publishEvent.finish, ?_⟩
  case slots => simp [State.published, hi, Cand.zero]
  case bytes => rw [finish_mem, publishEvent_mem]
  exact ⟨hwindow, htransient, hwhiten, hsolve⟩

/-- Settles O38: SNAPSHOT aside, each stage's own command runs without a condition. -/
theorem commandsRunToTheirFinish : Obligations.CommandsRunToTheirFinish := by
  refine ⟨sequencer_enabled_iff, fun s i hi he => ?_⟩
  have hstage : i = .publish ∨ ∃ st : Stage, st ≠ .none ∧ st ≠ .snapshot ∧ st ≠ .publish ∧ i = st.command := by
    simp only [List.mem_cons, List.not_mem_nil, or_false] at hi
    obtain rfl | rfl | rfl | rfl | rfl | rfl | rfl | rfl := hi
    · exact .inr ⟨.transient, by decide⟩
    · exact .inr ⟨.window, by decide⟩
    · exact .inr ⟨.zeropad, by decide⟩
    · exact .inr ⟨.fft, by decide⟩
    · exact .inr ⟨.mag, by decide⟩
    · exact .inr ⟨.whiten, by decide⟩
    · exact .inr ⟨.solve, by decide⟩
    · exact .inl rfl
  obtain rfl | ⟨st, hnone, hsnap, hpub, rfl⟩ := hstage
  · exact ⟨_, next_singleStage he .publish publishEvent, (StageKept.refl s).finished_publish,
      (StageKept.refl s).around.publishEvent.finish⟩
  · have hkept := stageKept_event s hpub
    have hcommand : st.command = .publish → st = .publish := by cases st <;> decide
    rw [if_neg (mt hcommand hpub)]
    exact ⟨_, exec_command he ⟨hnone, fun h => absurd h hsnap⟩, hkept.finished, hkept.around.finish⟩

/-! ### STEP (R121) -/

/-- No stage reads curcmd. -/
theorem event_curcmd (st : Stage) (c : Word) (s : State) :
    st.event { s with curcmd := c } = { st.event s with curcmd := c } := by
  cases st with
  | none => rfl
  | snapshot => rfl
  | transient =>
    refine (transientEvent_sequencer s c s.cbusy s.cwait s.cstage).trans ?_
    simp only [Stage.event, transientEvent]
  | window => exact windowEvent_sequencer s c s.cbusy s.cwait s.cstage
  | zeropad => exact zeropadEvent_sequencer s c s.cbusy s.cwait s.cstage
  | fft => exact fftEvent_sequencer s c s.cbusy s.cwait s.cstage
  | mag => exact magEvent_sequencer s c s.cbusy s.cwait s.cstage
  | whiten => exact whitenEvent_sequencer s c s.cbusy s.cwait s.cstage
  | solve => exact solveEvent_sequencer s c s.cbusy s.cwait s.cstage
  | publish => exact publishEvent_sequencer s c s.cbusy s.cwait s.cstage

theorem cwait_event (st : Stage) (s : State) :
    (st.event s).cwait = if st.command = .snapshot then false else s.cwait := by
  cases st <;> simp [Stage.event, Stage.command]

/-- Going on to the next stage is the event's `finish()` with the sequencer kept busy and STATE and IRQ_PEND put back. -/
theorem advance_eq_finish {u : State} {busy wait : Bool} {cmd : Word} {m : Mode} {irq : BitVec 6} (hbusy : u.cbusy = busy)
    (hwait : u.cwait = wait) (hcmd : u.curcmd = cmd) (hm : u.mode = m) (hirq : u.irqPend = irq) (st : Stage) (c : Word) :
    advance st u = { finish { u with curcmd := c } with
      cbusy := busy, cwait := wait, curcmd := cmd, cstage := st, mode := m, irqPend := irq } := by
  subst hbusy hwait hcmd hm hirq
  rw [finish_frame]
  rfl

theorem executing_curcmd {s : State} {i : Instr} (he : s.executing i = true) (j : Instr) :
    State.executing { s with curcmd := encode j } j = true := by
  obtain ⟨hturn, hbusy, -⟩ := (State.executing_iff s i).mp he
  exact (State.executing_iff ..).mpr ⟨hturn, hbusy, rfl⟩

/-- Before its last stage a STEP does what the stage's own command does, and goes on (R121). -/
theorem step_does_command {s : State} (he : s.executing .step = true) (hr : s.cstage.Runs s) (hlast : s.cstage ≠ .publish) :
    ∃ t, exec s.cstage.command { s with curcmd := encode s.cstage.command } = .next t ∧
      exec .step s = .next { t with
        cbusy := true
        cwait := if s.cstage.command = .snapshot then false else s.cwait
        curcmd := encode .step
        cstage := s.cstage.next
        mode := s.mode
        irqPend := s.irqPend } := by
  obtain ⟨-, hbusy, hcmd⟩ := (State.executing_iff ..).mp he
  have hkept := stageKept_event s hlast
  refine ⟨_, exec_command (executing_curcmd he _) hr, ?_⟩
  rw [exec_step he, stepStage_goes_on hr hlast, event_curcmd _ (encode _)]
  exact congrArg _ (advance_eq_finish (hkept.cbusy.trans hbusy) (cwait_event ..) (hkept.curcmd.trans hcmd) hkept.mode
    hkept.irqPend ..)

/-- Settles O40: one case for the eight stages before PUBLISH, and one for each other branch of the event. -/
theorem stepRunsItsStages : Obligations.StepRunsItsStages := by
  intro s he
  rw [exec_step he]
  refine ⟨fun e hmem hst hwait => ?stages, fun hst => ?publish, fun hst hm => ?cancelled, fun hst hm hlag => ?held⟩
  case stages =>
    obtain ⟨hcommand, hnext, hnone, hlast⟩ :
        e.1 = e.2.1.command ∧ e.2.2 = e.2.1.next ∧ e.2.1 ≠ .none ∧ e.2.1 ≠ .publish := by
      clear hst hwait
      revert e
      decide
    rw [hcommand, ← hst] at hwait
    rw [hcommand, hnext, ← hst, ← exec_step he]
    rw [← hst] at hnone hlast
    exact step_does_command he ⟨hnone, fun h => hwait (by rw [h]; rfl)⟩ hlast
  case publish =>
    rw [stepStage_publishes hst]
    refine ((exec_command (st := .publish) (executing_curcmd he .publish) ⟨by decide, nofun⟩).trans ?_).symm
    rw [event_curcmd]
    rfl
  case cancelled =>
    have hready : s.snapshotReady = true := (snapshotReady_iff s).mpr (.inr hm)
    refine ⟨finish s, by simp [stepStage, hst, hready, hm], (StageKept.refl s).finished, sameAround_finish s,
      sameDatapath_finish s, fun a => by rw [finish_mem]⟩
  case held =>
    have hheld : s.snapshotReady = false := by
      rw [← Bool.not_eq_true, snapshotReady_iff]
      exact not_or.mpr ⟨Nat.not_le.mpr hlag, not_not.mpr hm⟩
    simp [stepStage, hst, hheld]

/-! ### A whole STEP (R121) -/

/-- The next `n` stages of a STEP, of which none waits and none is the last. -/
def runStages : Nat → State → State
  | 0, s => s
  | n + 1, s => runStages n (advance s.cstage.next (s.cstage.event s))

/-- The events of a STEP are its stages as long as they neither wait nor are the last. -/
theorem execTimes_runStages (n m : Nat) {s : State} (he : s.executing .step = true)
    (hst : ∀ k < n, Stage.next^[k] s.cstage ∉ ([.none, .snapshot, .publish] : List Stage)) :
    execTimes .step (n + m) s = execTimes .step m (runStages n s) ∧ StageKept s (runStages n s) := by
  induction n generalizing s with
  | zero => exact ⟨by rw [Nat.zero_add]; rfl, .refl s⟩
  | succ n ih =>
    obtain ⟨hnone, hsnap, hlast⟩ : s.cstage ≠ .none ∧ s.cstage ≠ .snapshot ∧ s.cstage ≠ .publish := by
      simpa using hst 0 (Nat.succ_pos n)
    have hkept := (stageKept_event s hlast).trans (stageKept_advance _ s.cstage.next)
    obtain ⟨hrest, hrestKept⟩ := ih ((hkept.executing .step).trans he) fun k hk => hst (k + 1) (by omega)
    refine ⟨?_, hkept.trans hrestKept⟩
    rw [Nat.add_right_comm, execTimes, exec_step he, stepStage_goes_on ⟨hnone, fun h => absurd h hsnap⟩ hlast]
    exact hrest

/-- What a STEP that takes the available steps leaves before its PUBLISH (R121). -/
def State.stepped (s : State) : State := runStages 7 (advance .transient (takeSnapshot s))

/-- Nine events: SNAPSHOT's completion, seven stages and PUBLISH (R121). -/
theorem execTimes_step_nine {s : State} (he : s.executing .step = true) (hst : s.cstage = .snapshot)
    (hr : Stage.Runs .snapshot s) :
    execTimes .step 9 s = .next (finish (publishEvent s.stepped)) ∧ StageKept s s.stepped := by
  have htaken : StageKept s (advance .transient (takeSnapshot s)) :=
    (stageKept_event s (st := .snapshot) (by decide)).trans (stageKept_advance ..)
  obtain ⟨hseven, hkept⟩ := execTimes_runStages 7 1 ((htaken.executing .step).trans he)
    (by rw [advance_cstage]; decide)
  have hkept : StageKept s s.stepped := htaken.trans hkept
  have hlast : exec .step s.stepped = .next (finish (publishEvent s.stepped)) := by
    rw [exec_step ((hkept.executing .step).trans he)]
    exact stepStage_publishes rfl
  refine ⟨?_, hkept⟩
  rw [execTimes, exec_step he, stepStage_takes hst (snapshotReady_of_runs hr) (hr.2 rfl).1]
  refine hseven.trans ?_
  rw [← State.stepped, execTimes, hlast]
  rfl

/-- The newest 128 samples of RING are the frame TRANSIENT reads after SNAPSHOT (R96, R108). -/
theorem currentFrame_takeSnapshot (s : State) : (takeSnapshot s).currentFrame =
    (List.range 128).map fun i => s.elem .ring (((s.w - 128).toNat + i) % 2048) := by
  rw [State.currentFrame, elems_eq_map_range_add]
  refine List.map_congr_left fun i hi => ?_
  have hi : i < 128 := List.mem_range.mp hi
  have hw : (s.w - 128).toNat % 2048 = (s.w.toNat + 1920) % 2048 := by bv_omega
  rw [elem_takeSnapshot_win s (by simp only [Config.winLen, Config.step]; omega)]
  simp only [Config.winLen, Config.step]
  congr 1
  omega

/-- The step's registers before its PUBLISH: those of SNAPSHOT, of TRANSIENT and of WHITEN (R96, R105, R108). -/
theorem stepped_registers (s : State) :
    (s.stepped.r = s.w ∧ s.stepped.wend = s.w ∧ s.stepped.lag = BitVec.ofNat 32 s.avail) ∧
    (s.stepped.tRms = rmsOf (takeSnapshot s).currentFrame ∧ s.stepped.prevRms = s.stepped.tRms ∧
      s.stepped.tFlux = fsub s.stepped.tRms s.prevRms) ∧ s.stepped.wfirst = false := by
  have hframe : (advance .transient (takeSnapshot s)).currentFrame = (takeSnapshot s).currentFrame := rfl
  simp [State.stepped, runStages, Stage.event, Stage.next, hframe]

/-- Settles O41: the nine events, what all stages leave alone, and the registers the stages left. -/
theorem stepRunsNineEvents : Obligations.StepRunsNineEvents := by
  intro s he hst hm hlag
  obtain ⟨hnine, hkept⟩ := execTimes_step_nine he hst ⟨by decide, fun _ => ⟨hm, hlag⟩⟩
  obtain ⟨⟨hr, hwend, hlagReg⟩, ⟨htRms, hprevRms, htFlux⟩, hwfirst⟩ := stepped_registers s
  have hfinished := hkept.finished_publish
  have haround := hkept.around.publishEvent.finish
  obtain ⟨⟨htr, -, -⟩, ⟨htprevRms, httRms, httFlux, -⟩, ⟨-, htwfirst, -, -⟩, -⟩ := sameRegisters_publish s.stepped
  have hrw : (finish (publishEvent s.stepped)).r = s.w := htr.trans hr
  refine ⟨_, hnine, hrw, haround.control.w, ?avail, hfinished.cbusy, ?mode, htwfirst.trans hwfirst, ?bank, ?rms,
    ?prevRms, ?flux, hfinished, haround, fun a ha => ?bytes⟩
  case avail => simp [State.avail, State.lagSamples, hrw, haround.control.w]
  case mode => simp [hfinished.mode, hm]
  case bank =>
    have havail : s.avail = (s.w - s.r).toNat / 128 := rfl
    rw [bank_of_publish_kept, hkept.bank, hwend, hlagReg, havail]
  case rms => rw [httRms, htRms, currentFrame_takeSnapshot]
  case prevRms => rw [htprevRms, httRms, hprevRms]
  case flux => rw [httFlux, httRms, htFlux]
  case bytes =>
    rw [finish_mem, publishEvent_mem]
    exact hkept.bytes a ha

end Sys2Proof.Machine
end

section
/-! SUPPORT. What one event of the block can do to STATE and to the sequencer's registers, said once: an access leaves them
alone, a command arrives at its port, or the sequencer moves (R118 to R122, R124 to R130). The session invariants and the
table of STATE's changes follow. -/

namespace Sys2Proof.Machine

/-! ### STATE and the sequencer's registers -/

/-- STATE and the sequencer's registers are as before. -/
structure SameSession (s t : State) : Prop where
  mode : t.mode = s.mode
  sequencer : SameSequencer s t

theorem SameSequencer.trans {s t u : State} (h : SameSequencer s t) (k : SameSequencer t u) : SameSequencer s u :=
  ⟨k.cbusy.trans h.cbusy, k.cwait.trans h.cwait, k.cstage.trans h.cstage, k.curcmd.trans h.curcmd⟩

theorem SameSession.refl (s : State) : SameSession s s := ⟨rfl, rfl, rfl, rfl, rfl⟩

theorem SameSession.trans {s t u : State} (h : SameSession s t) (k : SameSession t u) : SameSession s u :=
  ⟨k.mode.trans h.mode, h.sequencer.trans k.sequencer⟩

/-- The session invariants read STATE and the sequencer's registers only. -/
theorem SessionInv.of_same {s t : State} (h : SessionInv s) (k : SameSession s t) : SessionInv t := by
  obtain ⟨hm, hb, hw, hst, hcmd⟩ := k
  constructor
  · rw [hm, hb]; exact h.idle_free
  · rw [hm, hb]; exact h.stopping_busy
  · rw [hb, hw, hst]; exact h.wait_iff
  · rw [hb, hst, hcmd]; exact h.free
  · rw [hb, hst, hcmd]; exact h.busy

section Operations
variable (s : State)

theorem sameSession_raiseFault (c : FaultCode) (info : Word) : SameSession s (raiseFault c info s) :=
  ⟨rfl, rfl, rfl, rfl, rfl⟩

theorem sameSession_raiseBusError (a : Addr) : SameSession s (raiseBusError a s) := ⟨rfl, rfl, rfl, rfl, rfl⟩

theorem sameSession_setProg (who : Agent) (ops : List AgentOp) : SameSession s (s.setProg who ops) := by
  cases who <;> exact ⟨rfl, rfl, rfl, rfl, rfl⟩

theorem sameSession_busRead (a : Addr) (size : Nat) : SameSession s (busRead a size s) := by
  obtain ⟨_, _, _, h⟩ | ⟨_, h⟩ := busRead_cases a size s <;> rw [h] <;> exact ⟨rfl, rfl, rfl, rfl, rfl⟩

theorem sameSession_writeReg (a : Addr) (r : Reg) (v : Word) : SameSession s (writeReg a r v s) := by
  cases r with
  | cfg c => simp only [writeReg, writeCfg]; split <;> exact ⟨rfl, rfl, rfl, rfl, rfl⟩
  | _ => exact ⟨rfl, rfl, rfl, rfl, rfl⟩

theorem sameSession_writeElem (a : Addr) (g : Region) (v : Word) : SameSession s (writeElem a g v s) := by
  unfold writeElem
  split <;> exact ⟨rfl, rfl, rfl, rfl, rfl⟩

end Operations

/-! ### The sequencer's events -/

/-- What an event of the sequencer does to STATE and its registers: a held command waits, an AUTO start begins a STEP, a
STEP goes on to its next stage, and a command ends with `finish()` (R96, R119, R121, R122). -/
inductive SequencerEvent (s t : State) : Prop where
  | held : SameSession s t → SequencerEvent s t
  | autoStart : s.cbusy = false → s.mode = .running → SameSession (startCommand .step .snapshot s) t → SequencerEvent s t
  | goesOn : s.cbusy = true → s.curcmd = encode .step → s.cstage ≠ .none → s.cstage ≠ .publish →
      SameSession { s with cstage := s.cstage.next, cwait := if s.cstage = .snapshot then false else s.cwait } t →
      SequencerEvent s t
  | finished (extra : BitVec 6) : Finished extra s t → SequencerEvent s t

/-- A stage's event and `finish()`. -/
theorem SequencerEvent.of_finish_event (s : State) (st : Stage) : SequencerEvent s (finish (st.event s)) := by
  by_cases hlast : st = .publish
  · subst hlast; exact .finished _ (StageKept.refl s).finished_publish
  · exact .finished _ (stageKept_event s hlast).finished

theorem SequencerEvent.of_finish (s : State) : SequencerEvent s (finish s) := SequencerEvent.of_finish_event s .none

/-- A stage's event that is not the last of a STEP, and the next stage. -/
theorem SequencerEvent.of_advance {s : State} (he : s.executing .step = true) (hnone : s.cstage ≠ .none)
    (hlast : s.cstage ≠ .publish) : SequencerEvent s (advance s.cstage.next (s.cstage.event s)) := by
  obtain ⟨-, hb, hcmd⟩ := (State.executing_iff ..).mp he
  have hkept := stageKept_event s hlast
  refine .goesOn hb hcmd hnone hlast ⟨hkept.mode, hkept.cbusy, ?_, rfl, hkept.curcmd⟩
  refine (cwait_event ..).trans ?_
  cases s.cstage <;> rfl

section Events
variable {s t : State}

/-- A stage that cannot happen is stage 1, in its wait or cancelled (R96). -/
theorem stage_waits_or_cancelled {st : Stage} (hst : st ≠ .none) (h : ¬ st.Runs s) :
    st = .snapshot ∧ (s.mode ≠ .running ∨ s.snapshotReady = false) := by
  have hready := snapshotReady_iff s
  unfold Stage.Runs at h
  by_cases hsnap : st = .snapshot
  · refine ⟨hsnap, ?_⟩
    by_cases hm : s.mode = .running
    · exact .inr (by rw [← Bool.not_eq_true, hready]; tauto)
    · exact .inl hm
  · tauto

/-- The event of a stage's own command. -/
theorem exec_command_sequencer {st : Stage} (hst : st ≠ .none) (he : s.executing st.command = true)
    (h : exec st.command s = .next t) : SequencerEvent s t := by
  by_cases hr : st.Runs s
  · rw [exec_command he hr] at h; cases h; exact SequencerEvent.of_finish_event s st
  · obtain ⟨rfl, hm | hwait⟩ := stage_waits_or_cancelled hst hr
    · cases (execSnapshot_cancelled he hm).symm.trans h; exact SequencerEvent.of_finish s
    · cases (execSnapshot_held he hwait).symm.trans h; exact .held (.refl s)

/-- The event of a STEP. -/
theorem exec_step_sequencer (he : s.executing .step = true) (h : exec .step s = .next t) : SequencerEvent s t := by
  rw [exec_step he] at h
  by_cases hnone : s.cstage = .none
  · simp [stepStage, hnone] at h
  by_cases hlast : s.cstage = .publish
  · rw [stepStage_publishes hlast] at h; cases h; exact SequencerEvent.of_finish_event s .publish
  by_cases hr : s.cstage.Runs s
  · rw [stepStage_goes_on hr hlast] at h; cases h; exact SequencerEvent.of_advance he hnone hlast
  · obtain ⟨hsnap, hm | hwait⟩ := stage_waits_or_cancelled hnone hr
    · have hready : s.snapshotReady = true := (snapshotReady_iff s).mpr (.inr hm)
      simp only [stepStage, hsnap, hready, Bool.not_true, Bool.false_eq_true, if_false, hm, ne_eq, not_false_eq_true,
        if_true, Host.Outcome.next.injEq] at h
      exact h ▸ SequencerEvent.of_finish s
    · simp only [stepStage, hsnap, hwait, Bool.not_false, if_true, Host.Outcome.next.injEq] at h
      exact h ▸ .held (.refl s)

/-- A command of CCMD is NOP, STEP or the command of one stage (R87). -/
theorem ccmd_cases {i : Instr} (h : i.port = .ccmd) :
    i = .nop ∨ i = .step ∨ ∃ st : Stage, st ≠ .none ∧ i = st.command := by
  cases i with
  | push | start | stop | clrfault | srst => cases h
  | nop => exact .inl rfl
  | step => exact .inr (.inl rfl)
  | snapshot => exact .inr (.inr ⟨.snapshot, nofun, rfl⟩)
  | transient => exact .inr (.inr ⟨.transient, nofun, rfl⟩)
  | window => exact .inr (.inr ⟨.window, nofun, rfl⟩)
  | zeropad => exact .inr (.inr ⟨.zeropad, nofun, rfl⟩)
  | fft => exact .inr (.inr ⟨.fft, nofun, rfl⟩)
  | mag => exact .inr (.inr ⟨.mag, nofun, rfl⟩)
  | whiten => exact .inr (.inr ⟨.whiten, nofun, rfl⟩)
  | solve => exact .inr (.inr ⟨.solve, nofun, rfl⟩)
  | publish => exact .inr (.inr ⟨.publish, nofun, rfl⟩)

/-- The sequencer's event in its turn, given that a free sequencer has one only for an AUTO start (R119, R122). -/
theorem sequencerEvent_session (ht : s.turn = .sequencer) (he : s.enabled .sequencer = true)
    (h : sequencerEvent s = .next t) : SequencerEvent s t := by
  obtain ⟨hb, e⟩ | ⟨i, hb, hd, hnop, e⟩ | ⟨_, e⟩ := sequencerEvent_cases s <;> rw [e] at h
  · cases h
    obtain ⟨hbusy, _⟩ | ⟨_, _, hm, _⟩ := (sequencer_enabled_iff s).mp he
    · exact absurd hbusy (by simp [hb])
    · exact .autoStart hb hm (.refl _)
  · obtain ⟨hport, _, hcmd⟩ := decode_eq_ok_iff.mp hd
    have hexec : s.executing i = true := (State.executing_iff ..).mpr ⟨ht, hb, hcmd.symm⟩
    obtain rfl | rfl | ⟨st, hst, rfl⟩ := ccmd_cases hport
    · exact absurd rfl hnop
    · exact exec_step_sequencer hexec h
    · exact exec_command_sequencer hst hexec h
  · cases h

end Events

/-! ### Commands that arrive -/

/-- Teardown: STOPPING while a command runs, else IDLE with STOPPED pending (R127, R128). -/
structure Teardown (s t : State) : Prop where
  mode : t.mode = if s.cbusy then .stopping else .idle
  stopped : s.cbusy = false → t.irqPend.getLsbD 5 = true
  sequencer : SameSequencer s t

theorem teardown_requestTeardown (s : State) : Teardown s (requestTeardown s) := by
  obtain ⟨hb, h⟩ | ⟨hb, h⟩ := requestTeardown_cases s <;> rw [h]
  · exact ⟨by simp [hb], by simp [hb], rfl, rfl, rfl, rfl⟩
  · exact ⟨by simp [hb], fun _ => by simp [goIdle, pend, IrqSource.mask], rfl, rfl, rfl, rfl⟩

/-- What the arrival of a command does to STATE and the sequencer's registers: nothing, or it begins, or its row of STATE's
table (R118, R130). -/
inductive Arrival (i : Instr) (s t : State) : Prop where
  | kept : SameSession s t → Arrival i s t
  | accepted : i.staged = true → s.cbusy = false → s.mode = .running →
      SameSession (startCommand i (i.stages.headD .none) s) t → Arrival i s t
  | malformed (ch : BitVec 8) : i = .push ch → ch ≠ 1 ∨ s.stgCnt ≠ 128 → s.mode = .running → t.mode = .faulted →
      SameSequencer s t → Arrival i s t
  | started : i = .start → s.mode = .idle → t.mode = .running → SameSequencer s t → Arrival i s t
  | stopped : i = .stop → s.mode = .running → Teardown s t → Arrival i s t
  | cleared : i = .clrfault → s.mode = .faulted → Teardown s t → Arrival i s t
  | reset : i = .srst 0xA5 → t.mode = .idle → SameSequencer State.reset t → Arrival i s t

section Events
variable {s t : State}

theorem accept_arrival {i : Instr} (hi : i.staged = true) : Arrival i s (accept i (i.stages.headD .none) s) := by
  obtain ⟨_, h⟩ | ⟨_, _, h⟩ | ⟨_, _, _, h⟩ | ⟨_, hb, hm, h⟩ := accept_cases i (i.stages.headD .none) s <;> rw [h]
  · exact .kept (sameSession_raiseFault ..)
  · exact .kept (sameSession_raiseFault ..)
  · exact .kept (sameSession_raiseFault ..)
  · exact .accepted hi hb hm (.refl _)

theorem execPush_arrival {ch : BitVec 8} (h : execPush ch s = .next t) : Arrival (.push ch) s t := by
  have hch := channelCount_eq_one ch
  obtain ⟨_, e⟩ | ⟨hm, hc, e⟩ | ⟨hm, _, hn, e⟩ | ⟨_, _, _, e⟩ := execPush_cases ch s <;> rw [e] at h <;> cases h
  · exact .kept ⟨rfl, rfl, rfl, rfl, rfl⟩
  · exact .malformed ch rfl (.inl (mt hch.mpr hc)) hm rfl ⟨rfl, rfl, rfl, rfl⟩
  · exact .malformed ch rfl (.inr hn) hm rfl ⟨rfl, rfl, rfl, rfl⟩
  · rw [overrunCheck_frame]; exact .kept ⟨rfl, rfl, rfl, rfl, rfl⟩

theorem execNop_sameSession (h : execNop s = .next t) : SameSession s t := by
  unfold execNop at h
  split_ifs at h <;> cases h
  · exact sameSession_raiseFault ..
  · exact sameSession_raiseFault ..
  · exact .refl s

theorem execStart_arrival (h : execStart s = .next t) : Arrival .start s t := by
  obtain ⟨_, e⟩ | ⟨_, _, _, e⟩ | ⟨hm, _, e⟩ := execStart_cases s <;> rw [e] at h <;> cases h
  · exact .kept (sameSession_raiseFault ..)
  · exact .kept (sameSession_raiseFault ..)
  · exact .started rfl hm rfl ⟨by simp, by simp, by simp, by simp⟩

theorem execStop_arrival (h : execStop s = .next t) : Arrival .stop s t := by
  unfold execStop at h
  split at h <;> cases h
  · exact .stopped rfl ‹_› (teardown_requestTeardown s)
  · exact .kept (.refl s)

theorem execClrfault_arrival (h : execClrfault s = .next t) : Arrival .clrfault s t := by
  unfold execClrfault at h
  split at h <;> cases h
  · obtain ⟨hmode, hstopped, hseq⟩ := teardown_requestTeardown (clearFault s)
    exact .cleared rfl ‹_› ⟨hmode, hstopped, ⟨hseq.cbusy, hseq.cwait, hseq.cstage, hseq.curcmd⟩⟩
  · exact .kept ⟨rfl, rfl, rfl, rfl, rfl⟩

theorem execSrst_arrival {key : BitVec 8} (h : execSrst key s = .next t) : Arrival (.srst key) s t := by
  unfold execSrst at h
  split at h <;> cases h
  · next hkey => exact .reset (congrArg _ hkey) rfl ⟨rfl, rfl, rfl, rfl⟩
  · exact .kept (sameSession_raiseFault ..)

/-- A command that the sequencer is not executing arrives. -/
theorem exec_arrival {i : Instr} (he : s.executing i = false) (h : exec i s = .next t) : Arrival i s t := by
  have consumer (hp : i.port = .ccmd) (hn : i ≠ .nop) (hi : i.staged = true) : Arrival i s t := by
    rw [exec_arrives hp hn he] at h; cases h; exact accept_arrival hi
  cases i with
  | push ch => exact execPush_arrival h
  | nop => exact .kept (execNop_sameSession h)
  | start => exact execStart_arrival h
  | stop => exact execStop_arrival h
  | clrfault => exact execClrfault_arrival h
  | srst key => exact execSrst_arrival h
  | snapshot | transient | window | zeropad | fft | mag | whiten | solve | publish | step => exact consumer rfl nofun rfl

/-! ### Every event is one of them -/

/-- STATE and the sequencer's registers are the block's (R149, log 25). -/
theorem SameBlock.sameSession {u : State} (hu : SameBlock s u) : SameSession s u := by
  rw [hu]; exact ⟨rfl, rfl, rfl, rfl, rfl⟩

/-- An arrival is the same whatever the launch's fields hold. -/
theorem Arrival.of_sameBlock {i : Instr} {u : State} (hu : SameBlock s u) (h : Arrival i u t) : Arrival i s t := by
  rw [hu] at h
  cases h with
  | kept h => exact .kept ⟨h.mode, { h.sequencer with }⟩
  | accepted hi hb hm h => exact .accepted hi hb hm ⟨h.mode, { h.sequencer with }⟩
  | malformed ch hi hbad hm ht h => exact .malformed ch hi hbad hm ht { h with }
  | started hi hm ht h => exact .started hi hm ht { h with }
  | stopped hi hm h => exact .stopped hi hm ⟨h.mode, h.stopped, { h.sequencer with }⟩
  | cleared hi hm h => exact .cleared hi hm ⟨h.mode, h.stopped, { h.sequencer with }⟩
  | reset hi ht h => exact .reset hi ht h

theorem SequencerEvent.of_sameBlock {u : State} (hu : SameBlock s u) (h : SequencerEvent u t) : SequencerEvent s t := by
  rw [hu] at h
  cases h with
  | held h => exact .held ⟨h.mode, { h.sequencer with }⟩
  | autoStart hb hm h => exact .autoStart hb hm ⟨h.mode, { h.sequencer with }⟩
  | goesOn hb hcmd hnone hlast h => exact .goesOn hb hcmd hnone hlast ⟨h.mode, { h.sequencer with }⟩
  | finished extra h => exact .finished extra { h with }

/-- No port stands at another address than its own (R69). -/
theorem regAt_eq_port {a : Nat} {p : Port} (h : regAt a = some (.port p)) : a = p.addr := by
  have only : ∀ e ∈ regMap, (e.2 = .port .hcmd → e.1 = 0x010) ∧ (e.2 = .port .pcmd → e.1 = 0x014) ∧
      (e.2 = .port .ccmd → e.1 = 0x01C) := by decide
  obtain ⟨hhcmd, hpcmd, hccmd⟩ := only _ (mem_regMap_of_regAt h)
  cases p with
  | hcmd => exact hhcmd rfl
  | pcmd => exact hpcmd rfl
  | ccmd => exact hccmd rfl

/-- An address that leads to a port is the port's own. -/
theorem eq_port_addr_of_locate {l : Latched} {a : Addr} {p : Port} (h : locate l a.toNat = .reg (.port p)) :
    a = BitVec.ofNat 18 p.addr := by
  unfold locate at h
  split at h
  · next r hr => cases h; exact BitVec.eq_of_toNat_eq (by rw [regAt_eq_port hr]; cases p <;> rfl)
  · split at h <;> cases h

/-- A bus write outside the sequencer's turn is the arrival of a command at its port, or leaves the session alone. -/
theorem busWrite_session {a : Addr} {size : Nat} {v : Word} (ht : s.turn ≠ .sequencer)
    (h : busWrite a size v s = .next t) :
    SameSession s t ∨ ∃ i : Instr, a = BitVec.ofNat 18 i.port.addr ∧ size = 4 ∧ v = encode i ∧ Arrival i s t := by
  have hblock : SameBlock s (answer 0 s) := rfl
  have hanswer := hblock.sameSession
  obtain ⟨_, e⟩ | ⟨p, hw, hl, e⟩ | ⟨r, _, _, _, e⟩ | ⟨g, _, _, e⟩ | ⟨_, _, e⟩ := busWrite_cases a size v s <;> rw [e] at h
  case inr.inl =>
    obtain ⟨i, hd, e⟩ | ⟨_, _, e⟩ := submit_cases p v (answer 0 s) <;> rw [e] at h
    · obtain ⟨rfl, _, hv⟩ := decode_eq_ok_iff.mp hd
      have hsize : size = 4 := by simp only [wellFormedAccess, Bool.and_eq_true, beq_iff_eq] at hw; exact hw.1
      have he : (answer 0 s).executing i = false := by simp [State.executing, ht]
      exact .inr ⟨i, eq_port_addr_of_locate hl, hsize, hv.symm, (exec_arrival he h).of_sameBlock hblock⟩
    · cases h; exact .inl (hanswer.trans (sameSession_raiseFault ..))
  all_goals cases h; left
  · exact sameSession_raiseBusError s a
  · exact hanswer.trans (sameSession_writeReg ..)
  · exact hanswer.trans (sameSession_writeElem ..)
  · exact sameSession_raiseBusError s a

/-- What one operation of another agent than the sequencer does. -/
theorem performOp_session {who : Agent} {op : AgentOp} {rest : List AgentOp} (ht : s.turn ≠ .sequencer)
    (h : performOp who op rest s = .next t) :
    SameSession s t ∨ ∃ i : Instr, op = .write (BitVec.ofNat 18 i.port.addr) 4 (encode i) ∧ Arrival i s t := by
  obtain ⟨a, size, v, rfl, e⟩ | ⟨a, size, _, e⟩ | ⟨a, mask, val, _, e⟩ := performOp_cases who op rest s <;> rw [e] at h
  · have hblock : SameBlock s (markRole who a size (s.setProg who rest)) := by rw [markRole_eq]; cases who <;> rfl
    obtain hkept | ⟨i, rfl, rfl, rfl, harr⟩ := busWrite_session (by simpa [markRole_eq] using ht) h
    · exact .inl (hblock.sameSession.trans hkept)
    · exact .inr ⟨i, rfl, harr.of_sameBlock hblock⟩
  · cases h; exact .inl ((sameSession_setProg ..).trans (sameSession_busRead ..))
  · cases h
    left
    split
    · exact (sameSession_busRead ..).trans (sameSession_setProg ..)
    · exact sameSession_busRead ..

/-- An agent with no program left does nothing (R149). -/
theorem agentEvent_of_exhausted {who : Agent} (hwho : who ≠ .sequencer) (h : s.prog who = []) :
    agentEvent who s = .next s := by
  cases who with
  | sequencer => exact absurd rfl hwho
  | _ => simp only [agentEvent, h]

/-- What a step does to STATE and the sequencer's registers: an access leaves them alone, a command arrives, or the sequencer
moves. -/
inductive SessionEvent (s t : State) : Prop where
  | access : SameSession s t → SessionEvent s t
  | arrival (i : Instr) : s.arrives i → Arrival i s t → SessionEvent s t
  | sequencer : s.sequencerMoves → SequencerEvent s t → SessionEvent s t

/-- Every step is one of these. -/
theorem step_session (h : step s = .next t) : SessionEvent s t := by
  obtain ⟨_, who, u, hc, hev⟩ := step_cases h
  obtain ⟨he, l, n, m, hu⟩ := chooseAgent_some hc
  have hblock : SameBlock s { u with turn := who } := by rw [hu]; rfl
  by_cases hwho : who = .sequencer
  · subst hwho
    exact .sequencer ⟨u, hc⟩ ((sequencerEvent_session rfl (by rw [hu]; exact he) hev).of_sameBlock hblock)
  · have hprog := prog_of_choice hc who
    cases hp : s.prog who with
    | nil =>
      rw [hp] at hprog
      cases (agentEvent_of_exhausted hwho hprog).symm.trans hev
      exact .access hblock.sameSession
    | cons op rest =>
      rw [agentEvent_of_prog (hprog.trans hp)] at hev
      obtain hkept | ⟨i, rfl, harr⟩ := performOp_session hwho hev
      · exact .access (hblock.sameSession.trans hkept)
      · exact .arrival i ⟨who, u, rest, hc, hwho, hp⟩ (harr.of_sameBlock hblock)

end Events

/-! ### The session invariants (R65, R66, R130) -/

/-- The stage after another is a stage of STEP (R121). -/
theorem Stage.next_mem_stages (st : Stage) (hnone : st ≠ .none) (hlast : st ≠ .publish) : st.next ∈ Instr.step.stages := by
  cases st with
  | none => exact absurd rfl hnone
  | publish => exact absurd rfl hlast
  | _ => decide

theorem Stage.next_ne_snapshot (st : Stage) : st.next ≠ .snapshot := by cases st <;> nofun

theorem sessionInv_reset : SessionInv State.reset := ⟨fun _ => rfl, nofun, by decide, fun _ => ⟨rfl, rfl⟩, nofun⟩

/-- `finish()` leaves no command and no STOPPING (R119). -/
theorem Finished.sessionInv {extra : BitVec 6} {s t : State} (k : Finished extra s t) : SessionInv t := by
  refine ⟨fun _ => k.cbusy, fun hstop => ?_, by simp [k.cwait, k.cbusy], fun _ => ⟨k.cstage, k.curcmd⟩, ?_⟩
  · rw [k.mode] at hstop
    split at hstop
    · cases hstop
    · exact absurd hstop ‹_›
  · simp [k.cbusy]

section Invariants
variable {s t : State} (h : SessionInv s)
include h

/-- CWAIT is set at stage 1 only. -/
theorem SessionInv.wait_of_stage (hst : s.cstage ≠ .snapshot) : s.cwait = false := by
  rw [← Bool.not_eq_true, h.wait_iff]
  exact fun ⟨_, hsnap⟩ => hst hsnap

theorem SessionInv.wait_of_free (hb : s.cbusy = false) : s.cwait = false := by
  rw [← Bool.not_eq_true, h.wait_iff]
  simp [hb]

/-- A command begins at its first stage, and waits if that is stage 1 (R118). -/
theorem sessionInv_startCommand {i : Instr} (hi : i.staged = true) (hb : s.cbusy = false) (hm : s.mode = .running) :
    SessionInv (startCommand i (i.stages.headD .none) s) := by
  have hfirst : i.stages.headD .none ∈ i.stages := by
    cases hst : i.stages with
    | nil => simp [Instr.staged, hst] at hi
    | cons st rest => simp
  refine ⟨fun hidle => ?_, fun _ => rfl, ?_, fun hfree => (by cases hfree), fun _ => ⟨i, hi, rfl, hfirst⟩⟩
  · exact absurd hidle (by simp [hm])
  · simp [h.wait_of_free hb]

/-- A STEP that goes on waits no more: only stage 1 waits, and it is no next stage (R65, R121). -/
theorem sessionInv_goesOn (hb : s.cbusy = true) (hcmd : s.curcmd = encode .step) (hnone : s.cstage ≠ .none)
    (hlast : s.cstage ≠ .publish) :
    SessionInv { s with cstage := s.cstage.next, cwait := if s.cstage = .snapshot then false else s.cwait } := by
  have hsnap := s.cstage.next_ne_snapshot
  have hwait : (if s.cstage = .snapshot then false else s.cwait) = false := by
    split
    · rfl
    · exact h.wait_of_stage ‹_›
  have hnext := s.cstage.next_mem_stages hnone hlast
  refine ⟨h.idle_free, h.stopping_busy, ?_, fun hfree => ?_, fun _ => ⟨.step, rfl, hcmd, hnext⟩⟩
  · simp [hwait, hsnap]
  · exact absurd hb (by simp [show s.cbusy = false from hfree])

/-- An event that keeps the sequencer's registers may change STATE to one that fits CBUSY. -/
theorem SessionInv.of_sequencer (k : SameSequencer s t) (hidle : t.mode = .idle → s.cbusy = false)
    (hstopping : t.mode = .stopping → s.cbusy = true) : SessionInv t := by
  have hk : SessionInv { s with mode := t.mode } := ⟨hidle, hstopping, h.wait_iff, h.free, h.busy⟩
  exact hk.of_same ⟨rfl, k.cbusy, k.cwait, k.cstage, k.curcmd⟩

theorem Teardown.sessionInv (k : Teardown s t) : SessionInv t := by
  have hmode := k.mode
  cases hb : s.cbusy <;> exact h.of_sequencer k.sequencer (by simp [hmode, hb]) (by simp [hmode, hb])

theorem Arrival.sessionInv {i : Instr} (k : Arrival i s t) : SessionInv t := by
  cases k with
  | kept k => exact h.of_same k
  | accepted hi hb hm k => exact (sessionInv_startCommand h hi hb hm).of_same k
  | malformed _ _ _ _ ht k => exact h.of_sequencer k (by simp [ht]) (by simp [ht])
  | started _ _ ht k => exact h.of_sequencer k (by simp [ht]) (by simp [ht])
  | stopped _ _ k => exact k.sessionInv h
  | cleared _ _ k => exact k.sessionInv h
  | reset _ ht k => exact sessionInv_reset.of_same ⟨ht, k⟩

theorem SequencerEvent.sessionInv (k : SequencerEvent s t) : SessionInv t := by
  cases k with
  | held k => exact h.of_same k
  | autoStart hb hm k => exact (sessionInv_startCommand h (i := .step) rfl hb hm).of_same k
  | goesOn hb hcmd hnone hlast k => exact (sessionInv_goesOn h hb hcmd hnone hlast).of_same k
  | finished extra k => exact k.sessionInv

end Invariants

/-- Settles O52: the invariants are kept by each thing an event can do to the session. -/
theorem sessionInvariantsAreKept : Obligations.SessionInvariantsAreKept := by
  intro s t h hst
  cases step_session hst with
  | access k => exact h.of_same k
  | arrival i _ k => exact k.sessionInv h
  | sequencer _ k => exact k.sessionInv h

/-! ### The changes of STATE (R130) -/

theorem Teardown.idle_or_stopping {s t : State} (k : Teardown s t) :
    (t.mode = .idle ∧ s.cbusy = false ∧ t.irqPend.getLsbD 5 = true) ∨ (t.mode = .stopping ∧ s.cbusy = true) := by
  have hmode := k.mode
  cases hb : s.cbusy with
  | true => exact .inr ⟨by simpa [hb] using hmode, rfl⟩
  | false => exact .inl ⟨by simpa [hb] using hmode, rfl, k.stopped hb⟩

/-- The sequencer changes STATE in `finish()` alone: from STOPPING to IDLE, with STOPPED pending (R119). -/
theorem SequencerEvent.idle_of_stopping {s t : State} (k : SequencerEvent s t) (hne : t.mode ≠ s.mode) :
    s.mode = .stopping ∧ t.mode = .idle ∧ t.cbusy = false ∧ t.irqPend.getLsbD 5 = true := by
  cases k with
  | held k => exact absurd k.mode hne
  | autoStart _ _ k => exact absurd k.mode hne
  | goesOn _ _ _ _ k => exact absurd k.mode hne
  | finished extra k =>
    by_cases hm : s.mode = .stopping
    · exact ⟨hm, by simp [k.mode, hm], k.cbusy, by simp [k.irqPend, hm]⟩
    · exact absurd (by simp [k.mode, hm]) hne

/-- Settles O55: an arrival that changes STATE names its row, and the sequencer has one row. -/
theorem stateChangesOnlyAsTheTableSays : Obligations.StateChangesOnlyAsTheTableSays := by
  intro s t _ hst hne
  cases step_session hst with
  | access k => exact absurd k.mode hne
  | sequencer hmoves k =>
    obtain ⟨hs, ht, hb, hirq⟩ := k.idle_of_stopping hne
    exact .inr (.inr (.inr (.inr (.inl ⟨hs, ht, hb, hirq, hmoves⟩))))
  | arrival i harr k =>
    cases k with
    | kept k => exact absurd k.mode hne
    | accepted _ _ _ k => exact absurd k.mode hne
    | started hi hs ht => exact .inl ⟨hs, ht, hi ▸ harr⟩
    | stopped hi hs k =>
      obtain ⟨ht, hb, hirq⟩ | ⟨ht, hb⟩ := k.idle_or_stopping
      · exact .inr (.inl ⟨hs, ht, hb, hirq, hi ▸ harr⟩)
      · exact .inr (.inr (.inl ⟨hs, ht, hb, hi ▸ harr⟩))
    | malformed ch hi hbad hs ht => exact .inr (.inr (.inr (.inl ⟨hs, ht, ch, hi ▸ harr, hbad⟩)))
    | cleared hi hs k =>
      obtain ⟨ht, hb, hirq⟩ | ⟨ht, hb⟩ := k.idle_or_stopping
      · exact .inr (.inr (.inr (.inr (.inr (.inl ⟨hs, ht, hb, hirq, hi ▸ harr⟩)))))
      · exact .inr (.inr (.inr (.inr (.inr (.inr (.inl ⟨hs, ht, hb, hi ▸ harr⟩))))))
    | reset hi ht => exact .inr (.inr (.inr (.inr (.inr (.inr (.inr ⟨ht, hi ▸ harr⟩))))))

end Sys2Proof.Machine
end

section
/-! SUPPORT. Host control: the legal values of the configuration and what START latches and initialises, and the exact
answers of STOP, CLRFAULT and SRST (R124 to R129). -/

namespace Sys2Proof.Machine

/-! ### Teardown (R127, R128) -/

theorem requestTeardown_of_busy {s : State} (hb : s.cbusy = true) : requestTeardown s = { s with mode := .stopping } :=
  if_pos hb

theorem requestTeardown_of_free {s : State} (hb : s.cbusy = false) :
    requestTeardown s = { s with mode := .idle, irqPend := s.irqPend ||| 0b100000 } :=
  if_neg (by simp [hb])

/-- Settles O47: STOP in RUNNING is a teardown request. -/
theorem stopFollowsItsRule : Obligations.StopFollowsItsRule := by
  have running {s : State} (hm : s.mode = .running) : exec .stop s = .next (requestTeardown s) := if_pos hm
  refine fun s => ⟨fun hm hb => ?busy, fun hm hb => ?free, fun hm => if_neg hm⟩
  case busy => rw [running hm, requestTeardown_of_busy hb]
  case free => rw [running hm, requestTeardown_of_free hb]

/-- Settles O48: CLRFAULT in FAULTED is a teardown request with the fault record cleared. -/
theorem clrfaultFollowsItsRule : Obligations.ClrfaultFollowsItsRule := by
  have faulted {s : State} (hm : s.mode = .faulted) : exec .clrfault s = .next (requestTeardown (clearFault s)) := if_pos hm
  refine fun s => ⟨fun hm hb => ?busy, fun hm hb => ?free, fun hm => if_neg hm⟩
  case busy => rw [faulted hm, requestTeardown_of_busy (s := clearFault s) hb]; rfl
  case free => rw [faulted hm, requestTeardown_of_free (s := clearFault s) hb]; rfl

/-! ### SRST (R129, R147) -/

/-- After SRST every register reads as after power-on. -/
theorem resetEvent_readReg (s : State) (r : Reg) : (resetEvent s).readReg r = State.reset.readReg r := by
  cases r <;> rfl

/-- On HCMD the OPC of SRST leads to its row (R87). -/
theorem decode_srst (key : BitVec 8) : decode .hcmd (cmdWord key 0x83) = srstRow key := decode_cmdWord ..

/-- Settles O9: SRST with its key is the reset event, and its row of the table has no other key. -/
theorem srstResetsTheBlock : Obligations.SrstResetsTheBlock := by
  constructor
  · exact fun s => ⟨resetEvent s, rfl, resetEvent_readReg s, rfl, rfl, rfl, rfl, rfl, rfl, rfl, rfl, rfl⟩
  · intro key hkey
    rw [decode_srst]
    exact if_neg hkey

/-! ### The legal values (R125) -/

/-- The exponent field is not 0xFF exactly if bits 30:0 are below an infinity's. -/
theorem isFinite_iff (v : Word) : isFinite v = true ↔ FiniteField v := by
  have hexponent : (v.extractLsb' 23 8).toNat = v.toNat / 2 ^ 23 % 2 ^ 8 := by
    rw [BitVec.extractLsb'_toNat, Nat.shiftRight_eq_div_pow]
  have hfield : FiniteField v ↔ (v.extractLsb' 23 8).toNat ≠ 255 := not_congr BitVec.toNat_inj.symm
  rw [hfield, hexponent, isFinite, decide_eq_true_iff, fbits, infBits]
  omega

theorem ALen.ofWord_eq_some {v : Word} {a : ALen} : ALen.ofWord v = some a ↔ v.toNat = a.toNat := by
  unfold ALen.ofWord
  cases a <;> simp only [ALen.toNat] <;> split_ifs <;> simp <;> bv_omega

theorem NFft.ofWord_eq_some {v : Word} {n : NFft} : NFft.ofWord v = some n ↔ v.toNat = n.toNat := by
  unfold NFft.ofWord
  cases n <;> simp only [NFft.toNat] <;> split_ifs <;> simp <;> bv_omega

theorem WKind.ofWord_eq_some {v : Word} {k : WKind} :
    WKind.ofWord v = some k ↔ v.toNat = if k = .blackmanHarris then 0 else 1 := by
  unfold WKind.ofWord
  cases k <;> split_ifs <;> simp_all <;> bv_omega

theorem HUnit.ofWord_eq_some {v : Word} {u : HUnit} : HUnit.ofWord v = some u ↔ v.toNat = if u = .hz then 0 else 1 := by
  unfold HUnit.ofWord
  cases u <;> split_ifs <;> simp_all <;> bv_omega

theorem LegalValue.alen_iff {v : Word} : LegalValue .alen v ↔ ∃ a, ALen.ofWord v = some a := by
  simp only [ALen.ofWord_eq_some]
  constructor
  · rintro (h | h | h)
    exacts [⟨.len512, h⟩, ⟨.len1024, h⟩, ⟨.len2048, h⟩]
  · rintro ⟨_ | _ | _, h⟩
    exacts [.inl h, .inr (.inl h), .inr (.inr h)]

theorem LegalValue.nfft_iff {v : Word} : LegalValue .nfft v ↔ ∃ n, NFft.ofWord v = some n := by
  simp only [NFft.ofWord_eq_some]
  constructor
  · rintro (h | h)
    exacts [⟨.len2048, h⟩, ⟨.len4096, h⟩]
  · rintro ⟨_ | _, h⟩
    exacts [.inl h, .inr h]

theorem LegalValue.wkind_iff {v : Word} : LegalValue .wkind v ↔ ∃ k, WKind.ofWord v = some k := by
  simp only [WKind.ofWord_eq_some]
  constructor
  · rintro (h | h)
    exacts [⟨.blackmanHarris, h⟩, ⟨.hann, h⟩]
  · rintro ⟨_ | _, h⟩
    exacts [.inl h, .inr h]

theorem LegalValue.hunit_iff {v : Word} : LegalValue .hunit v ↔ ∃ u, HUnit.ofWord v = some u := by
  simp only [HUnit.ofWord_eq_some]
  constructor
  · rintro (h | h)
    exacts [⟨.hz, h⟩, ⟨.cents, h⟩]
  · rintro ⟨_ | _, h⟩
    exacts [.inl h, .inr h]

/-- START's check is the table of legal values (R125). -/
theorem legal_iff (c : CfgReg) (v : Word) : legal c v = true ↔ LegalValue c v := by
  have word {n : Nat} (hn : n < 2 ^ 32) : v = BitVec.ofNat 32 n ↔ v.toNat = n := by
    rw [← BitVec.toNat_inj, BitVec.toNat_ofNat, Nat.mod_eq_of_lt hn]
  cases c with
  | fs | frame | winlen => simpa [legal, LegalValue] using word (by decide)
  | alen => exact Option.isSome_iff_exists.trans LegalValue.alen_iff.symm
  | nfft => exact Option.isSome_iff_exists.trans LegalValue.nfft_iff.symm
  | wkind => exact Option.isSome_iff_exists.trans LegalValue.wkind_iff.symm
  | hunit => exact Option.isSome_iff_exists.trans LegalValue.hunit_iff.symm
  | nfloor | htol | hsub | silence => simp [legal, LegalValue, finiteNonneg, isFinite_iff]
  | tthr => exact isFinite_iff v
  | walpha | weps => simp [legal, LegalValue, finitePos, isFinite_iff, and_assoc]
  | maxn => exact decide_eq_true_iff
  | debounce => exact iff_of_true rfl trivial

/-- The configuration registers are listed in address order (R34). -/
theorem cfgReg_all_sorted : CfgReg.all.Pairwise fun c d => c.addr < d.addr := by decide

theorem mem_cfgReg_all (c : CfgReg) : c ∈ CfgReg.all := by cases c <;> decide

theorem firstIllegal_eq_none {f : Cfg} (h : ∀ c, LegalValue c (f.get c)) : firstIllegal f = none := by
  rw [firstIllegal, List.find?_eq_none]
  intro c _
  simp [(legal_iff ..).mpr (h c)]

/-- The register reported is the illegal one before which all are legal (R124). -/
theorem firstIllegal_eq_some {f : Cfg} {c : CfgReg} (hc : ¬ LegalValue c (f.get c))
    (hbefore : ∀ d : CfgReg, d.addr < c.addr → LegalValue d (f.get d)) : firstIllegal f = some c := by
  obtain ⟨before, after, hall⟩ := List.append_of_mem (mem_cfgReg_all c)
  rw [firstIllegal, List.find?_eq_some_iff_append]
  refine ⟨by simpa [← Bool.not_eq_true, legal_iff] using hc, before, after, hall, fun d hd => ?_⟩
  obtain ⟨-, -, hsorted⟩ := List.pairwise_append.mp (hall ▸ cfgReg_all_sorted)
  simpa [legal_iff] using hbefore d (hsorted d hd c List.mem_cons_self)

/-! ### What START latches (R67, R124) -/

section Latch
variable {f : Cfg} (h : ∀ c, LegalValue c (f.get c))
include h

theorem latch_alenN : (latch f).alenN = f.alen.toNat := by
  obtain ⟨a, ha⟩ := LegalValue.alen_iff.mp (h .alen)
  have hword : ALen.ofWord f.alen = some a := ha
  simp [latch, Latched.alenN, hword, ALen.ofWord_eq_some.mp hword]

theorem latch_nfftN : (latch f).nfftN = f.nfft.toNat := by
  obtain ⟨n, hn⟩ := LegalValue.nfft_iff.mp (h .nfft)
  have hword : NFft.ofWord f.nfft = some n := hn
  simp [latch, Latched.nfftN, hword, NFft.ofWord_eq_some.mp hword]

theorem latch_wkind : (latch f).wkind = .blackmanHarris ↔ f.wkind = 0 := by
  obtain ⟨k, hk⟩ := LegalValue.wkind_iff.mp (h .wkind)
  have hword : WKind.ofWord f.wkind = some k := hk
  simp [latch, hword, ← BitVec.toNat_inj, WKind.ofWord_eq_some.mp hword]

theorem latch_hunit : (latch f).hunit = .hz ↔ f.hunit = 0 := by
  obtain ⟨u, hu⟩ := LegalValue.hunit_iff.mp (h .hunit)
  have hword : HUnit.ofWord f.hunit = some u := hu
  simp [latch, hword, ← BitVec.toNat_inj, HUnit.ofWord_eq_some.mp hword]

theorem latch_maxn : (latch f).maxn.val = f.maxn.toNat := by
  have hmax : 1 ≤ f.maxn.toNat ∧ f.maxn.toNat ≤ 16 := h .maxn
  exact Nat.mod_eq_of_lt (by omega)

end Latch

/-- START with every register legal (R124, R126). -/
theorem exec_start_of_legal {s : State} (hm : s.mode = .idle) (h : ∀ c, LegalValue c (s.cfg.get c)) :
    exec .start s = .next { startInit (latch s.cfg) s with mode := .running } := by
  simp [exec, execStart, hm, firstIllegal_eq_none h]

/-- Settles O44: the check is a search in address order, and what is legal is latched as it is. -/
theorem startFollowsItsRule : Obligations.StartFollowsItsRule := by
  refine fun s => ⟨fun hm => ?refused, fun c hm hc hbefore => ?illegal, fun hm h => ?legal⟩
  case refused =>
    have hword : encode .start = 0x00000080 := by decide
    simp [exec, execStart, hm, hword]
  case illegal => simp [exec, execStart, hm, firstIllegal_eq_some hc hbefore]
  case legal =>
    refine ⟨_, exec_start_of_legal hm h, rfl, ?_⟩
    simp only [startInit_lat]
    exact ⟨latch_alenN h, latch_nfftN h, latch_wkind h, latch_hunit h, latch_maxn h, rfl, rfl, rfl, rfl⟩

/-! ### What START initialises (R126) -/

/-- Every element below WCOEF's base is +0.0. -/
theorem readWord_sessionMemory_low (l : Latched) {a : Nat} (ha : a + 4 ≤ Region.wcoef.base) :
    (sessionMemory l).readWord a = 0 := by
  rw [sessionMemory, Memory.readWord_writeWords_outside _ _ (.inl ha), readWord_zeroed]

/-- WCOEF is the table (R99). -/
theorem readWord_sessionMemory_wcoef (l : Latched) {n : Nat} (hn : n < l.alenN) :
    (sessionMemory l).readWord (Region.wcoef.addr n) = (windowTable l.wkind l.alenN).getD n 0 := by
  have hlen : n < (windowTable l.wkind l.alenN).length := (length_windowTable l.wkind l.alen).symm ▸ hn
  rw [List.getD_eq_getElem _ _ hlen]
  exact Memory.zeroed.readWord_writeWords Region.wcoef.base _ hlen

/-- Settles O45: the arrays by what START stores, the registers by its equations. -/
theorem startInitialisesTheSession : Obligations.StartInitialisesTheSession := by
  intro s hm h
  refine ⟨_, exec_start_of_legal hm h, ?_⟩
  simp only [State.elem, startInit_mem, startInit_lat]
  refine ⟨rfl, rfl, rfl, rfl, rfl, rfl, rfl, rfl, rfl, rfl, rfl, rfl, rfl, rfl, rfl, rfl, rfl, rfl,
    fun e he i hi => ?arrays, fun n hn => readWord_sessionMemory_wcoef _ hn, rfl, rfl, rfl, rfl, rfl, rfl, rfl, rfl, rfl,
    ?sequencer, ?launch, rfl, rfl⟩
  case arrays =>
    have hbelow : ∀ e ∈ ([(.ring, 2048), (.win, 2048), (.pad, 4096), (.xre, 2049), (.xim, 2049), (.mag, 2049),
        (.wht, 2049), (.scr, 2049)] : List (Region × Nat)), e.1.base + 4 * e.2 ≤ Region.wcoef.base := by decide
    have := hbelow e he
    exact readWord_sessionMemory_low _ (by simp only [Region.addr]; omega)
  case sequencer => constructor <;> rfl
  case launch => constructor <;> rfl

end Sys2Proof.Machine
end

section
/-! SUPPORT. Faults and interrupts: what recording a fault sets (R132, R133), the output level (R136), and that no event of
the block clears a pending bit: only SRST and a write of 1 to it do (R33, R136, R147). -/

namespace Sys2Proof.Machine

/-! ### The fault record (R132) -/

theorem FaultCode.getLsbD_mask (c : FaultCode) : ∀ b < 7, c.mask.getLsbD b = decide (b + 1 = c.code.toNat) := by
  cases c <;> decide

/-- Codes 1 and 2 set HALT_FAULT, the others ERROR (R132, R135). -/
theorem FaultCode.getLsbD_source_mask (c : FaultCode) :
    ∀ b < 6, c.source.mask.getLsbD b = decide (b = if c.code.toNat = 1 ∨ c.code.toNat = 2 then 3 else 4) := by
  cases c <;> decide

/-- Settles O16: each register's new bits are those of the fault's masks. -/
theorem faultRecordFollowsItsRule : Obligations.FaultRecordFollowsItsRule := by
  refine fun c info s => ⟨?code, fun b hb => ?fault, rfl, rfl, fun b hb => ?irqPend, fun b hb => ?seen, rfl⟩
  case code => cases c <;> rfl
  case fault => rw [raiseFault_fault, BitVec.getLsbD_or, c.getLsbD_mask b hb]
  case irqPend => rw [raiseFault_irqPend, BitVec.getLsbD_or, c.getLsbD_source_mask b hb]
  case seen => rw [raiseFault_faultsSeen, BitVec.getLsbD_or, c.getLsbD_mask b hb]

/-! ### The output level (R136) -/

theorem getLsbD_statusWord_irq (s : State) : s.statusWord.getLsbD 13 = s.irq := by
  have hsum := toNat_statusWord s
  obtain ⟨hmode, hbusy, hwait, hstage, hirq, -⟩ := statusFields_lt s
  exact getLsbD_eq_of_div_mod (by omega)

theorem irq_iff (s : State) :
    s.irq = true ↔ ∃ b, b < 6 ∧ s.irqEn.getLsbD b = true ∧ s.irqPend.getLsbD b = true := by
  rw [State.irq, bne_iff_ne, ne_eq, BitVec.eq_of_getLsbD_eq_iff]
  simp

/-! ### Operations that leave a pending bit pending -/

section Pending
variable {s t : State} {b : Nat} (hb : s.irqPend.getLsbD b = true)
include hb

theorem raiseFault_pending (c : FaultCode) (info : Word) : (raiseFault c info s).irqPend.getLsbD b = true := by simp [hb]

theorem raiseBusError_pending (a : Addr) : (raiseBusError a s).irqPend.getLsbD b = true := by simp [hb]

theorem finish_pending : (finish s).irqPend.getLsbD b = true := by
  obtain ⟨_, h⟩ | ⟨_, h⟩ := finish_cases s <;> simp [h, hb]

theorem requestTeardown_pending : (requestTeardown s).irqPend.getLsbD b = true := by
  obtain ⟨_, h⟩ | ⟨_, h⟩ := requestTeardown_cases s <;> simp [h, hb]

theorem advance_pending (st : Stage) : (advance st s).irqPend.getLsbD b = true := hb

theorem accept_pending (i : Instr) (st : Stage) : (accept i st s).irqPend.getLsbD b = true := by
  obtain ⟨_, h⟩ | ⟨_, _, h⟩ | ⟨_, _, _, h⟩ | ⟨_, _, _, h⟩ := accept_cases i st s <;> simp [h, hb]

theorem overrunCheck_pending : (overrunCheck s).irqPend.getLsbD b = true := by
  obtain ⟨_, h⟩ | ⟨_, h⟩ := overrunCheck_cases s <;> simp [h, hb]

theorem event_pending (st : Stage) : (st.event s).irqPend.getLsbD b = true := by
  cases st <;> simp [Stage.event, hb]

theorem singleStage_pending (i : Instr) (st : Stage) : (singleStage i st st.event s).irqPend.getLsbD b = true := by
  obtain ⟨_, e⟩ | ⟨_, e⟩ := singleStage_cases i st st.event s <;> rw [e]
  · exact finish_pending (event_pending hb st)
  · exact accept_pending hb i st

theorem busRead_pending (a : Addr) (size : Nat) : (busRead a size s).irqPend.getLsbD b = true := by
  obtain ⟨_, _, _, h⟩ | ⟨_, h⟩ := busRead_cases a size s <;> simp [h, hb]

theorem setProg_pending (who : Agent) (ops : List AgentOp) : (s.setProg who ops).irqPend.getLsbD b = true := by
  cases who <;> exact hb

theorem markRole_pending (who : Agent) (a : Addr) (size : Nat) : (markRole who a size s).irqPend.getLsbD b = true := by
  rw [markRole_eq]
  exact hb

theorem writeElem_pending (a : Addr) (g : Region) (v : Word) : (writeElem a g v s).irqPend.getLsbD b = true := by
  unfold writeElem
  split
  · exact hb
  · exact raiseBusError_pending hb a

/-- A write to a register clears a pending bit only at IRQ_PEND, and only where it writes a 1 (R33). -/
theorem writeReg_pending (a : Addr) (r : Reg) (v : Word) :
    (writeReg a r v s).irqPend.getLsbD b = true ∨ (r = .irqPend ∧ v.getLsbD b = true) := by
  cases r with
  | irqPend =>
    cases hv : v.getLsbD b with
    | true => exact .inr ⟨rfl, rfl⟩
    | false => exact .inl (by simp [writeReg, writeIrqPend, hb, hv, BitVec.lt_of_getLsbD hb])
  | ctrl | irqEn | pdata => exact .inl hb
  | cfg c =>
    left
    simp only [writeReg, writeCfg]
    split
    · exact hb
    · exact raiseBusError_pending hb a
  | _ => exact .inl (raiseBusError_pending hb a)

/-! ### Commands -/

theorem execPush_pending {ch : BitVec 8} (h : execPush ch s = .next t) : t.irqPend.getLsbD b = true := by
  obtain ⟨_, e⟩ | ⟨_, _, e⟩ | ⟨_, _, _, e⟩ | ⟨_, _, _, e⟩ := execPush_cases ch s <;> rw [e] at h <;> cases h
  case inr.inr.inr => simp [overrunCheck_pending hb]
  all_goals simp [hb]

theorem execNop_pending (h : execNop s = .next t) : t.irqPend.getLsbD b = true := by
  unfold execNop at h
  split_ifs at h <;> cases h
  · exact raiseFault_pending hb ..
  · exact raiseFault_pending hb ..
  · exact hb

theorem execSnapshot_pending (h : execSnapshot s = .next t) : t.irqPend.getLsbD b = true := by
  unfold execSnapshot at h
  split_ifs at h <;> cases h
  · exact hb
  · exact finish_pending hb
  · exact finish_pending (event_pending hb .snapshot)
  · exact accept_pending hb ..

theorem execStep_pending (h : execStep s = .next t) : t.irqPend.getLsbD b = true := by
  unfold execStep at h
  split at h
  · obtain ⟨_, e⟩ | ⟨_, _, e⟩ | ⟨_, _, _, e⟩ | ⟨_, _, _, e⟩ | ⟨_, e⟩ | ⟨_, e⟩ | ⟨_, e⟩ | ⟨_, e⟩ | ⟨_, e⟩ | ⟨_, e⟩ |
      ⟨_, e⟩ | ⟨_, e⟩ := stepStage_cases s <;> rw [e] at h <;> cases h
    · exact hb
    · exact finish_pending hb
    · exact advance_pending (event_pending hb .snapshot) _
    · exact advance_pending (event_pending hb .transient) _
    · exact advance_pending (event_pending hb .window) _
    · exact advance_pending (event_pending hb .zeropad) _
    · exact advance_pending (event_pending hb .fft) _
    · exact advance_pending (event_pending hb .mag) _
    · exact advance_pending (event_pending hb .whiten) _
    · exact advance_pending (event_pending hb .solve) _
    · exact finish_pending (event_pending hb .publish)
  · cases h; exact accept_pending hb ..

/-- START leaves the pending bits alone (R126, R136). -/
theorem execStart_pending (h : execStart s = .next t) : t.irqPend.getLsbD b = true := by
  obtain ⟨_, e⟩ | ⟨_, _, _, e⟩ | ⟨_, _, e⟩ := execStart_cases s <;> rw [e] at h <;> cases h <;> simp [hb]

theorem execStop_pending (h : execStop s = .next t) : t.irqPend.getLsbD b = true := by
  unfold execStop at h
  split at h <;> cases h
  · exact requestTeardown_pending hb
  · exact hb

theorem execClrfault_pending (h : execClrfault s = .next t) : t.irqPend.getLsbD b = true := by
  have hclear : (clearFault s).irqPend.getLsbD b = true := hb
  unfold execClrfault at h
  split at h <;> cases h
  · exact requestTeardown_pending hclear
  · exact hclear

/-- No command but SRST clears a pending bit (R136, R147). -/
theorem exec_pending {i : Instr} (h : exec i s = .next t) : t.irqPend.getLsbD b = true ∨ i = .srst 0xA5 := by
  cases i with
  | push ch => exact .inl (execPush_pending hb h)
  | nop => exact .inl (execNop_pending hb h)
  | snapshot => exact .inl (execSnapshot_pending hb h)
  | transient => cases h; exact .inl (singleStage_pending hb .transient .transient)
  | window => cases h; exact .inl (singleStage_pending hb .window .window)
  | zeropad => cases h; exact .inl (singleStage_pending hb .zeropad .zeropad)
  | fft => cases h; exact .inl (singleStage_pending hb .fft .fft)
  | mag => cases h; exact .inl (singleStage_pending hb .mag .mag)
  | whiten => cases h; exact .inl (singleStage_pending hb .whiten .whiten)
  | solve => cases h; exact .inl (singleStage_pending hb .solve .solve)
  | publish => cases h; exact .inl (singleStage_pending hb .publish .publish)
  | step => exact .inl (execStep_pending hb h)
  | start => exact .inl (execStart_pending hb h)
  | stop => exact .inl (execStop_pending hb h)
  | clrfault => exact .inl (execClrfault_pending hb h)
  | srst key =>
    simp only [exec, execSrst] at h
    split at h <;> cases h
    · next hkey => exact .inr (congrArg _ hkey)
    · exact .inl (raiseFault_pending hb ..)

end Pending

/-! ### Accesses and events -/

/-- The operation asks for pending bit `b` to be cleared: SRST at its port, or a 1 in that bit at IRQ_PEND (R33, R136). -/
def AgentOp.Clears (b : Nat) (op : AgentOp) : Prop :=
  op = .write (BitVec.ofNat 18 (Instr.srst 0xA5).port.addr) 4 (encode (.srst 0xA5)) ∨
    ∃ v, op = .write 0x040 4 v ∧ v.getLsbD b = true

/-- IRQ_PEND stands at no address but its own (R69). -/
theorem eq_irqPend_addr_of_locate {l : Latched} {a : Addr} (h : locate l a.toNat = .reg .irqPend) : a = 0x040 := by
  have only : ∀ e ∈ regMap, e.2 = .irqPend → e.1 = 0x040 := by decide
  unfold locate at h
  split at h
  · next r hr => cases h; exact BitVec.eq_of_toNat_eq (only _ (mem_regMap_of_regAt hr) rfl)
  · split at h <;> cases h

section Events
variable {s t : State} {b : Nat} (hb : s.irqPend.getLsbD b = true)
include hb

theorem busWrite_pending {a : Addr} {size : Nat} {v : Word} (h : busWrite a size v s = .next t) :
    t.irqPend.getLsbD b = true ∨ (AgentOp.write a size v).Clears b := by
  have hsize (hw : wellFormedAccess a size = true) : size = 4 := by
    simp only [wellFormedAccess, Bool.and_eq_true, beq_iff_eq] at hw; exact hw.1
  have hanswer : (answer 0 s).irqPend.getLsbD b = true := hb
  obtain ⟨_, e⟩ | ⟨p, hw, hl, e⟩ | ⟨r, hw, hl, _, e⟩ | ⟨g, _, _, e⟩ | ⟨_, _, e⟩ := busWrite_cases a size v s <;> rw [e] at h
  · cases h; exact .inl (raiseBusError_pending hb a)
  · obtain ⟨i, hd, e⟩ | ⟨_, _, e⟩ := submit_cases p v (answer 0 s) <;> rw [e] at h
    · obtain hkept | rfl := exec_pending hanswer h
      · exact .inl hkept
      · obtain ⟨rfl, _, rfl⟩ := decode_eq_ok_iff.mp hd
        exact .inr (.inl (by rw [eq_port_addr_of_locate hl, hsize hw]))
    · cases h; exact .inl (raiseFault_pending hanswer ..)
  · cases h
    obtain hkept | ⟨rfl, hv⟩ := writeReg_pending hanswer a r v
    · exact .inl hkept
    · exact .inr (.inr ⟨v, by rw [eq_irqPend_addr_of_locate hl, hsize hw], hv⟩)
  · cases h; exact .inl (writeElem_pending hanswer a g v)
  · cases h; exact .inl (raiseBusError_pending hb a)

theorem performOp_pending {who : Agent} {op : AgentOp} {rest : List AgentOp} (h : performOp who op rest s = .next t) :
    t.irqPend.getLsbD b = true ∨ op.Clears b := by
  have hprog := setProg_pending hb who rest
  obtain ⟨a, size, v, rfl, e⟩ | ⟨a, size, _, e⟩ | ⟨a, mask, val, _, e⟩ := performOp_cases who op rest s <;> rw [e] at h
  · exact busWrite_pending (markRole_pending hprog who a size) h
  · cases h; exact .inl (busRead_pending hprog a size)
  · cases h
    have hread := busRead_pending hb a 4
    left
    split
    · exact setProg_pending hread who rest
    · exact hread

/-- The sequencer runs commands of CCMD only, and SRST is none of them (R87, R119). -/
theorem sequencerEvent_pending (h : sequencerEvent s = .next t) : t.irqPend.getLsbD b = true := by
  obtain ⟨_, e⟩ | ⟨i, _, hd, _, e⟩ | ⟨_, e⟩ := sequencerEvent_cases s <;> rw [e] at h
  · cases h; exact hb
  · obtain hkept | rfl := exec_pending hb h
    · exact hkept
    · cases (decode_eq_ok_iff.mp hd).1
  · cases h

/-- An event that clears a pending bit is an operation that asks for it. -/
theorem agentEvent_pending {who : Agent} (h : agentEvent who s = .next t) :
    t.irqPend.getLsbD b = true ∨ ∃ op rest, s.prog who = op :: rest ∧ op.Clears b := by
  by_cases hwho : who = .sequencer
  · subst hwho; exact .inl (sequencerEvent_pending hb h)
  · cases hp : s.prog who with
    | nil => cases (agentEvent_of_exhausted hwho hp).symm.trans h; exact .inl hb
    | cons op rest =>
      rw [agentEvent_of_prog hp] at h
      exact (performOp_pending hb h).imp_right fun hop => ⟨op, rest, rfl, hop⟩

/-- A step that clears a pending bit performs an operation that asks for it. -/
theorem step_pending (h : step s = .next t) : t.irqPend.getLsbD b = true ∨
    ∃ who u op rest, chooseAgent s = some (who, u) ∧ s.prog who = op :: rest ∧ op.Clears b := by
  obtain ⟨_, who, u, hc, hev⟩ := step_cases h
  have hu : ({ u with turn := who } : State).irqPend.getLsbD b = true := by
    obtain ⟨_, _, _, _, rfl⟩ := chooseAgent_some hc
    exact hb
  refine (agentEvent_pending hu hev).imp_right fun ⟨op, rest, hp, hop⟩ => ?_
  exact ⟨who, u, op, rest, hc, (prog_of_choice hc who).symm.trans hp, hop⟩

end Events

/-- Settles O15: a step that clears a pending bit performs an operation that asks for it, an SRST or an acknowledgement. -/
theorem pendingBitsWaitForTheHost : Obligations.PendingBitsWaitForTheHost := by
  refine ⟨fun s => ⟨getLsbD_statusWord_irq s, irq_iff s⟩, fun s t b h hs ht => ?_⟩
  obtain hkept | ⟨who, u, op, rest, hc, hp, hsrst | ⟨v, hack, hv⟩⟩ := step_pending hs h
  · exact absurd hkept (by simp [ht])
  · have hwho : who ≠ .sequencer := by rintro rfl; cases hp
    exact .inl ⟨who, u, rest, hc, hwho, hsrst ▸ hp⟩
  · exact .inr ⟨who, u, v, rest, hc, hack ▸ hp, hv⟩

end Sys2Proof.Machine
end

section
/-! SUPPORT. The end of a run (R149, log 10): in SNAPSHOT's wait every operation that cannot lift it leaves STATE, the
sequencer, the ring and the results alone and adds nothing to a program, so a stuck run stays stuck. -/

namespace Sys2Proof.Machine

/-! ### What the wait keeps -/

/-- STATE, the sequencer's registers, the ring with its cursors, and the results are as before. -/
structure WaitKept (s t : State) : Prop where
  session : SameSession s t
  ring : RingKept s t
  results : SameResults s t

theorem WaitKept.trans {s t u : State} (h : WaitKept s t) (k : WaitKept t u) : WaitKept s u :=
  ⟨h.session.trans k.session, h.ring.trans k.ring, h.results.trans k.results⟩

theorem SameBlock.waitKept {s u : State} (hu : SameBlock s u) : WaitKept s u := by
  rw [hu]
  exact ⟨⟨rfl, rfl, rfl, rfl, rfl⟩, .of_mem id rfl rfl rfl rfl rfl, rfl, rfl⟩

section Operations
variable (s : State)

theorem waitKept_raiseFault (c : FaultCode) (info : Word) : WaitKept s (raiseFault c info s) :=
  ⟨sameSession_raiseFault s c info, ringKept_raiseFault s c info, rfl, rfl⟩

theorem waitKept_raiseBusError (a : Addr) : WaitKept s (raiseBusError a s) :=
  ⟨sameSession_raiseBusError s a, ringKept_raiseBusError s a, rfl, rfl⟩

theorem waitKept_clearFault : WaitKept s (clearFault s) :=
  ⟨⟨rfl, rfl, rfl, rfl, rfl⟩, .of_mem id rfl rfl rfl rfl rfl, rfl, rfl⟩

theorem waitKept_setProg (who : Agent) (ops : List AgentOp) : WaitKept s (s.setProg who ops) :=
  ⟨sameSession_setProg s who ops, ringKept_setProg s who ops, sameResults_setProg s who ops⟩

theorem waitKept_busRead (a : Addr) (size : Nat) : WaitKept s (busRead a size s) :=
  ⟨sameSession_busRead s a size, ringKept_busRead s a size, sameResults_busRead s a size⟩

theorem waitKept_writeReg (a : Addr) (r : Reg) (v : Word) : WaitKept s (writeReg a r v s) :=
  ⟨sameSession_writeReg s a r v, ringKept_writeReg s a r v, sameResults_writeReg s a r v⟩

theorem waitKept_writeElem {a : Addr} {g : Region} (hl : locate s.lat a.toNat = .elem g) (v : Word) :
    WaitKept s (writeElem a g v s) :=
  ⟨sameSession_writeElem s a g v, ringKept_writeElem s hl v, sameResults_writeElem s a g v⟩

/-- While a command runs another one is refused for AUTO or BUSY (R118). -/
theorem waitKept_accept (hb : s.cbusy = true) (i : Instr) (st : Stage) : WaitKept s (accept i st s) := by
  obtain ⟨_, h⟩ | ⟨_, _, h⟩ | ⟨_, hfree, _⟩ | ⟨_, hfree, _⟩ := accept_cases i st s
  · rw [h]; exact waitKept_raiseFault ..
  · rw [h]; exact waitKept_raiseFault ..
  · exact absurd hb (by simp [hfree])
  · exact absurd hb (by simp [hfree])

end Operations

/-! ### Operations that cannot lift the wait -/

/-- A word that reaches a port lifts the wait if its command does. -/
theorem liftsWait_write {a : Addr} {size : Nat} {v : Word} {p : Port} {i : Instr} (hw : wellFormedAccess a size = true)
    (hr : regAt a.toNat = some (.port p)) (hd : decode p v = .ok i) :
    (AgentOp.write a size v).liftsWait = liftsWait i := by
  simp [AgentOp.liftsWait, hw, hr, hd]

section Wait
variable {s t : State} (hb : s.cbusy = true) (hm : s.mode = .running) (hturn : s.turn ≠ .sequencer)
include hb hm hturn

/-- In the wait a command other than PUSH, STOP and SRST is refused, or is CLRFAULT outside FAULTED (R96, R131). -/
theorem exec_waitKept {i : Instr} (hi : liftsWait i = false) (h : exec i s = .next t) : WaitKept s t := by
  have consumer (hp : i.port = .ccmd) (hn : i ≠ .nop) : WaitKept s t := by
    rw [exec_arrives hp hn (by simp [State.executing, hturn])] at h
    cases h
    exact waitKept_accept s hb i _
  cases i with
  | push | stop | srst => cases hi
  | nop =>
    simp only [exec, execNop, hb, if_true] at h
    split at h <;> cases h <;> exact waitKept_raiseFault ..
  | start =>
    have hidle : s.mode ≠ .idle := by simp [hm]
    cases (if_pos hidle : execStart s = _).symm.trans h
    exact waitKept_raiseFault ..
  | clrfault =>
    have hfaulted : s.mode ≠ .faulted := by simp [hm]
    cases (if_neg hfaulted : execClrfault s = _).symm.trans h
    exact waitKept_clearFault s
  | snapshot | transient | window | zeropad | fft | mag | whiten | solve | publish | step => exact consumer rfl nofun

theorem busWrite_waitKept {a : Addr} {size : Nat} {v : Word} (hop : (AgentOp.write a size v).liftsWait = false)
    (h : busWrite a size v s = .next t) : WaitKept s t := by
  have hanswer : WaitKept s (answer 0 s) := SameBlock.waitKept rfl
  obtain ⟨_, e⟩ | ⟨p, hw, hl, e⟩ | ⟨r, _, _, _, e⟩ | ⟨g, _, hl, e⟩ | ⟨_, _, e⟩ := busWrite_cases a size v s <;> rw [e] at h
  · cases h; exact waitKept_raiseBusError s a
  · obtain ⟨i, hd, e⟩ | ⟨_, _, e⟩ := submit_cases p v (answer 0 s) <;> rw [e] at h
    · rw [liftsWait_write hw (regAt_of_locate hl) hd] at hop
      exact hanswer.trans (exec_waitKept hb hm hturn hop h)
    · cases h; exact hanswer.trans (waitKept_raiseFault ..)
  · cases h; exact hanswer.trans (waitKept_writeReg ..)
  · cases h; exact hanswer.trans (waitKept_writeElem (answer 0 s) hl v)
  · cases h; exact waitKept_raiseBusError s a

theorem performOp_waitKept {who : Agent} {op : AgentOp} {rest : List AgentOp} (hop : op.liftsWait = false)
    (h : performOp who op rest s = .next t) : WaitKept s t := by
  obtain ⟨a, size, v, rfl, e⟩ | ⟨a, size, _, e⟩ | ⟨a, mask, val, _, e⟩ := performOp_cases who op rest s <;> rw [e] at h
  · have hblock : SameBlock s (markRole who a size (s.setProg who rest)) := by rw [markRole_eq]; cases who <;> rfl
    have hkept := hblock.waitKept
    exact hkept.trans (busWrite_waitKept (hkept.session.sequencer.cbusy.trans hb) (hkept.session.mode.trans hm)
      (by simpa [markRole_eq] using hturn) hop h)
  · cases h; exact (waitKept_setProg ..).trans (waitKept_busRead ..)
  · cases h
    split
    · exact (waitKept_busRead ..).trans (waitKept_setProg ..)
    · exact waitKept_busRead ..

end Wait

/-! ### Programs only shrink -/

theorem prog_of_agentPart {s t : State} (h : t.agentPart = s.agentPart) (a : Agent) : t.prog a = s.prog a := by
  simp only [State.agentPart, Prod.mk.injEq] at h
  obtain ⟨_, _, hhost, hproducer, hreader⟩ := h
  cases a with
  | host => exact hhost
  | producer => exact hproducer
  | reader => exact hreader
  | sequencer => rfl

/-- A program set is its own agent's. -/
theorem setProg_prog_cases (s : State) (who : Agent) (ops : List AgentOp) (a : Agent) :
    (s.setProg who ops).prog a = s.prog a ∨ (a = who ∧ (s.setProg who ops).prog a = ops) := by
  cases who <;> cases a <;> simp [State.setProg, State.prog]

/-- An operation used up leaves the rest of its agent's program, and the other programs as they are. -/
theorem setProg_prog_subset {s : State} {who : Agent} {op : AgentOp} {rest : List AgentOp} (h : s.prog who = op :: rest)
    (a : Agent) : (s.setProg who rest).prog a ⊆ s.prog a := by
  obtain e | ⟨rfl, e⟩ := setProg_prog_cases s who rest a
  · rw [e]; exact List.Subset.refl _
  · rw [e, h]; exact List.subset_cons_self op rest

theorem performOp_prog_subset {s t : State} {who : Agent} {op : AgentOp} {rest : List AgentOp}
    (hp : s.prog who = op :: rest) (h : performOp who op rest s = .next t) (a : Agent) : t.prog a ⊆ s.prog a := by
  have hused := setProg_prog_subset hp a
  obtain ⟨b, size, v, _, e⟩ | ⟨b, size, _, e⟩ | ⟨b, mask, val, _, e⟩ := performOp_cases who op rest s <;> rw [e] at h
  · rw [markRole_eq] at h
    rw [prog_of_agentPart (busWrite_agentPart h)]
    cases a <;> exact hused
  · cases h
    rw [prog_of_agentPart (busRead_agentPart ..)]
    exact hused
  · cases h
    have hread := prog_of_agentPart (busRead_agentPart s b 4)
    split
    · rw [← hread]
      exact setProg_prog_subset ((hread who).trans hp) a
    · rw [hread]; exact List.Subset.refl _

/-! ### Stuck runs -/

theorem noLifterLeft_iff (s : State) :
    s.noLifterLeft = true ↔ ∀ who, ∀ op ∈ s.prog who, op.liftsWait = false := by
  have hagent (who : Agent) : (s.prog who).any AgentOp.liftsWait = false ↔ ∀ op ∈ s.prog who, op.liftsWait = false := by
    simp
  simp only [State.noLifterLeft, List.all_cons, List.all_nil, Bool.and_true, Bool.and_eq_true, Bool.not_eq_true', hagent]
  refine ⟨fun ⟨hp, hh, hr⟩ who => ?_, fun h => ⟨h _, h _, h _⟩⟩
  cases who with
  | producer => exact hp
  | host => exact hh
  | reader => exact hr
  | sequencer => exact fun _ hop => absurd hop List.not_mem_nil

theorem held_iff (s : State) : s.held = true ↔ s.cwait = true ∧ s.enabled .sequencer = false := by
  simp only [State.held, Bool.and_eq_true, Bool.not_eq_true', State.enabled]

/-- The sequencer is held at stage 1 of a session that is RUNNING and has no step available (R96, R119). -/
theorem SessionInv.held_iff {s : State} (h : SessionInv s) :
    s.held = true ↔ s.cwait = true ∧ s.mode = .running ∧ s.lagSamples < 128 := by
  rw [Machine.held_iff]
  refine and_congr_right fun hw => ?_
  obtain ⟨hb, hst⟩ := h.wait_iff.mp hw
  rw [← Bool.not_eq_true, sequencer_enabled_iff]
  simp [hb, hst, State.lagSamples, and_comm]

/-- In a held run with no lifter left a step keeps the wait, and no program grows. -/
theorem step_waitKept {s t : State} (hinv : SessionInv s) (hheld : s.held = true) (hleft : s.noLifterLeft = true)
    (h : step s = .next t) : WaitKept s t ∧ ∀ a, t.prog a ⊆ s.prog a := by
  obtain ⟨hwait, hm, _⟩ := hinv.held_iff.mp hheld
  obtain ⟨hb, _⟩ := hinv.wait_iff.mp hwait
  obtain ⟨_, who, u, hc, hev⟩ := step_cases h
  obtain ⟨he, l, n, m, hu⟩ := chooseAgent_some hc
  have hwho : who ≠ .sequencer := by
    rintro rfl
    exact absurd he (by simp [((held_iff s).mp hheld).2])
  have hprog := prog_of_choice hc
  have hkept : WaitKept s { u with turn := who } := SameBlock.waitKept (by rw [hu]; rfl)
  cases hp : s.prog who with
  | nil =>
    cases (agentEvent_of_exhausted hwho ((hprog who).trans hp)).symm.trans hev
    exact ⟨hkept, fun a => by rw [hprog]; exact List.Subset.refl _⟩
  | cons op rest =>
    have hop : op.liftsWait = false := (noLifterLeft_iff s).mp hleft who op (by simp [hp])
    rw [agentEvent_of_prog ((hprog who).trans hp)] at hev
    refine ⟨hkept.trans (performOp_waitKept (hkept.session.sequencer.cbusy.trans hb) (hkept.session.mode.trans hm) hwho hop
      hev), fun a => ?_⟩
    rw [← hprog a]
    exact performOp_prog_subset ((hprog who).trans hp) hev a

/-- A stuck run that still steps is one with no lifter left, and its step keeps it stuck. -/
theorem isStuck_step {s t : State} (hinv : SessionInv s) (hs : s.isStuck = true) (h : step s = .next t) :
    t.isStuck = true ∧ WaitKept s t := by
  have hstalled := (step_cases h).1
  simp only [State.isStuck, hstalled, Bool.or_false, Bool.and_eq_true] at hs
  obtain ⟨hheld, hleft⟩ := hs
  obtain ⟨hkept, hprog⟩ := step_waitKept hinv hheld hleft h
  obtain ⟨hwait, hm, hlag⟩ := hinv.held_iff.mp hheld
  have hlagKept : t.lagSamples = s.lagSamples := by rw [State.lagSamples, hkept.ring.w, hkept.ring.r, State.lagSamples]
  have htHeld : t.held = true := (sessionInvariantsAreKept s t hinv h).held_iff.mpr
    ⟨hkept.session.sequencer.cwait.trans hwait, hkept.session.mode.trans hm, hlagKept ▸ hlag⟩
  have htLeft : t.noLifterLeft = true :=
    (noLifterLeft_iff t).mpr fun who op hop => (noLifterLeft_iff s).mp hleft who op (hprog who hop)
  exact ⟨by simp [State.isStuck, htHeld, htLeft], hkept⟩

theorem exhausted_iff (s : State) :
    s.exhausted = true ↔ s.producerProg = [] ∧ s.hostProg = [] ∧ s.readerProg = [] := by
  simp only [State.exhausted, Bool.and_eq_true, List.isEmpty_iff]
  tauto

theorem isOver_iff (s : State) : s.isOver = true ↔
    s.producerProg = [] ∧ s.hostProg = [] ∧ s.readerProg = [] ∧ s.enabled .sequencer = false ∧ s.cwait = false := by
  simp only [State.isOver, Bool.and_eq_true, Bool.not_eq_true', exhausted_iff, State.enabled, and_assoc]

/-- With every program exhausted, an idle sequencer leaves no agent an event (R149). -/
theorem step_of_exhausted {s : State} (h : s.exhausted = true) (he : s.enabled .sequencer = false) :
    step s = .fault (if s.cwait then .stuck else .runOver) := by
  obtain ⟨hp, hh, hr⟩ := (exhausted_iff s).mp h
  refine step_of_none_enabled fun who => ?_
  cases who with
  | sequencer => exact he
  | producer => simp [State.enabled, hp]
  | host => simp [State.enabled, hh]
  | reader => simp [State.enabled, hr]

/-- Settles O59: an operation that cannot lift the wait leaves the run held, and with every program exhausted the sequencer
alone could have an event. -/
theorem stuckRunsStayStuck : Obligations.StuckRunsStayStuck := by
  refine ⟨fun s t hinv hs h => ?kept, fun s => ⟨isOver_iff s, fun hover => ?ends, fun hex hs => ?stuck⟩⟩
  case kept =>
    obtain ⟨ht, hkept⟩ := isStuck_step hinv hs h
    have htHeld : t.held = true := (Bool.and_eq_true_iff.mp ht).1
    obtain ⟨hwait, hm, _⟩ := (sessionInvariantsAreKept s t hinv h).held_iff.mp htHeld
    exact ⟨ht, hwait, hm, hkept.results.bank, hkept.ring.w⟩
  case ends =>
    obtain ⟨hp, hh, hr, he, hwait⟩ := (isOver_iff s).mp hover
    rw [step_of_exhausted ((exhausted_iff s).mpr ⟨hp, hh, hr⟩) he, hwait]; rfl
  case stuck =>
    obtain ⟨hwait, he⟩ := (held_iff s).mp (Bool.and_eq_true_iff.mp hs).1
    rw [step_of_exhausted hex he, hwait]; rfl

end Sys2Proof.Machine
end

section
/-! SUPPORT. Reset and launches: what every register reads after a reset (R20 to R55, R147), and the invariants at the start
of a launch (R149, R150). -/

namespace Sys2Proof.Machine

/-! ### The registers after a reset -/

/-- A register is read at its own address. -/
theorem readLocation_register {a : Nat} {r : Reg} (h : (a, r) ∈ regMap) (s : State) :
    s.readLocation (BitVec.ofNat 18 a) = some (s.readReg r) := by
  obtain ⟨hr, _, hlt⟩ := regAt_of_mem h
  refine readLocation_reg ?_
  rw [BitVec.toNat_ofNat, Nat.mod_eq_of_lt hlt, locate, hr]

theorem readLocation_shown (s : State) {part : List (Nat × Reg)} (hsub : part ⊆ regMap) :
    ∀ e ∈ s.shown part, s.readLocation e.1 = some e.2 := by
  intro e he
  obtain ⟨e, hmem, rfl⟩ := List.mem_map.mp he
  exact readLocation_register (hsub hmem) s

/-- Every field of every candidate slot reads 0 after a reset (R55). -/
theorem readReg_reset_cand (i : Nat) (f : CandField) : State.reset.readReg (.cand i f) = 0 := by
  have hzero : State.reset.cand.getD i Cand.zero = Cand.zero := by
    simp only [State.reset, List.getD_eq_getElem?_getD, List.getElem?_replicate]
    split <;> rfl
  rw [State.readReg, hzero]
  cases f <;> rfl

/-- Each word of the candidate slots is a field of one (R55). -/
theorem mem_regMap_cand_word {i : Nat} (h : i < 64) : ∃ f, (0x140 + 4 * i, Reg.cand (i / 4) f) ∈ regMap := by
  obtain ⟨hnote, hbin, hfreq, hmag⟩ := mem_regMap_cand (i := i / 4) (by omega)
  obtain hi | hi | hi | hi : i % 4 = 0 ∨ i % 4 = 1 ∨ i % 4 = 2 ∨ i % 4 = 3 := by omega
  · exact ⟨.note, by rwa [show 0x140 + 4 * i = 0x140 + 16 * (i / 4) by omega]⟩
  · exact ⟨.bin, by rwa [show 0x140 + 4 * i = 0x144 + 16 * (i / 4) by omega]⟩
  · exact ⟨.freq, by rwa [show 0x140 + 4 * i = 0x148 + 16 * (i / 4) by omega]⟩
  · exact ⟨.mag, by rwa [show 0x140 + 4 * i = 0x14C + 16 * (i / 4) by omega]⟩

/-- The part of the map below the candidate slots that can be read: all but the ports and PDATA (R69). -/
def readableMap : List (Nat × Reg) :=
  (controlMap ++ cfgMap ++ datapathMap ++ bankMap).filter fun e => e.2.rights != .wo

theorem readableMap_subset : readableMap ⊆ regMap :=
  fun _ he => List.mem_append_left _ (List.mem_filter.mp he).1

/-- Settles O8: the table is what the readable part of the map shows in the reset state, and each of the 64 words is a field
of a zero record. -/
theorem resetReadsTheTable : Obligations.ResetReadsTheTable := by
  refine ⟨?registers, fun i hi => ?candidates, rfl, rfl, rfl, rfl, rfl⟩
  case registers => exact readLocation_shown State.reset readableMap_subset
  case candidates =>
    obtain ⟨f, hmem⟩ := mem_regMap_cand_word hi
    rw [readLocation_register hmem, readReg_reset_cand]

/-! ### The start of a launch -/

/-- A launch writes the programs, the schedule and its marks, so every register reads as in the start state (R149). -/
theorem launchFrom_readReg (start : State) (host producer reader : List AgentOp) (sched : List Agent) (r : Reg) :
    (start.launchFrom host producer reader sched).readReg r = start.readReg r := by
  cases r <;> rfl

section LaunchFrom
variable {start : State} (host producer reader : List AgentOp) (sched : List Agent)

theorem CursorInv.launchFrom (h : CursorInv start) : CursorInv (start.launchFrom host producer reader sched) :=
  h.of_cursors rfl rfl

theorem SessionInv.launchFrom (h : SessionInv start) : SessionInv (start.launchFrom host producer reader sched) :=
  h.of_same ⟨rfl, rfl, rfl, rfl, rfl⟩

theorem MemoryInv.launchFrom (h : MemoryInv start) : MemoryInv (start.launchFrom host producer reader sched) :=
  h.of_memories rfl rfl

theorem CandidateInv.launchFrom (h : CandidateInv start) : CandidateInv (start.launchFrom host producer reader sched) :=
  h.of_lists rfl rfl rfl rfl

theorem ConfigInv.launchFrom (h : ConfigInv start) : ConfigInv (start.launchFrom host producer reader sched) :=
  h.of_registers rfl rfl rfl

end LaunchFrom

/-! ### The invariants at reset -/

theorem cursorInv_reset : CursorInv State.reset := cursorInv_of_eq rfl

theorem memoryInv_reset : MemoryInv State.reset :=
  (memoryInv_iff _).mpr ⟨Memory.formIn_of_no_cells _, Memory.formIn_of_no_cells _⟩

theorem candidateInv_reset : CandidateInv State.reset := candidateInv_of_zero rfl rfl rfl rfl

theorem configInv_reset : ConfigInv State.reset := configInv_of_idle rfl

/-- Settles O50: a launch writes nothing that the block's invariants read, and the reset state has them all. -/
theorem invariantsHoldAtReset : Obligations.InvariantsHoldAtReset := by
  refine ⟨fun start host producer reader sched => ?launchFrom, fun host producer reader sched => ?launch⟩
  case launchFrom =>
    refine ⟨rfl, rfl, rfl, rfl, ⟨rfl, rfl⟩, launchFrom_readReg start host producer reader sched, rfl, rfl, ?control,
      ?sequencer, ?datapath, fun h => h.launchFrom .., fun h => h.launchFrom .., fun h => h.launchFrom ..,
      fun h => h.launchFrom .., fun h => h.launchFrom ..⟩
    case control => constructor <;> rfl
    case sequencer => constructor <;> rfl
    case datapath => constructor <;> constructor <;> rfl
  case launch =>
    exact ⟨cursorInv_reset.launchFrom .., sessionInv_reset.launchFrom .., memoryInv_reset.launchFrom ..,
      candidateInv_reset.launchFrom .., configInv_reset.launchFrom .., faultInv_of_clear rfl rfl, cursorInv_reset,
      sessionInv_reset, memoryInv_reset⟩

end Sys2Proof.Machine
end
